-- ==== Sys2Proof/Word.lean ====
section
/-! DEFINITION. The data types of the block: bytes, 28-byte frames and windows, and the Snapshot (rules R9 to R11). -/

namespace Sys2Proof

/-- A byte is 8 bits, bit 0 the least significant (R9). -/
abbrev Byte := BitVec 8

/-- 28 bytes indexed from 0: a frame `F[0..27]` or the window `W[0..27]` (R10, R39). -/
abbrev Frame := Vector Byte 28

/-- The Snapshot: five fields, 184 bits (R11, R31 to R34). -/
structure Snapshot where
  /-- `digital_io`, 32 bits; pin `p` is bit `16 + p` (R31, R180) -/
  digitalIo : BitVec 32
  /-- `analog_io[0..3]`, four 16-bit readings (R32) -/
  analogIo : Vector (BitVec 16) 4
  /-- `aux_flag`, 8 bits, every value legal (R33) -/
  auxFlag : Byte
  /-- `aux_a[0..4]` (R34) -/
  auxA : Vector Byte 5
  /-- `aux_b[0..4]` (R34) -/
  auxB : Vector Byte 5
  deriving DecidableEq, Repr, Inhabited

/-- The all-zero Snapshot, `Z` of 95_test_vectors.md. -/
def Snapshot.zero : Snapshot :=
  { digitalIo := 0, analogIo := #v[0, 0, 0, 0], auxFlag := 0,
    auxA := #v[0, 0, 0, 0, 0], auxB := #v[0, 0, 0, 0, 0] }

end Sys2Proof
end

