-- ==== Sys2Proof/Config.lean ====
section
/-! DEFINITION. What is fixed for the block: the constants of rule R6, the parameters of rule R7, and the free values of what the spec leaves unspecified (R40, 93 U2, U5, U6). -/

namespace Sys2Proof

/-- `WINDOW_SIZE`, the bytes of a frame and of the window (R6). -/
abbrev Config.windowSize : Nat := 28

/-- `SOH`, the start marker at offset 0 (R6). -/
abbrev Config.soh : Byte := 0x01

/-- `EOT`, the end marker at offset 27 (R6). -/
abbrev Config.eot : Byte := 0x04

/-- `LEN`, the length byte ENC writes at offset 2 (R6, R85). -/
abbrev Config.len : Byte := 0x1B

/-- `LEN_C`, the length complement ENC writes at offset 3 (R6, R112). -/
abbrev Config.lenC : Byte := 0xE4

/-- `N_ANALOG`, the number of analog channels (R6). -/
abbrev Config.nAnalog : Nat := 4

/-- `AUX_LEN`, the bytes in each of `aux_a` and `aux_b` (R6); the Snapshot's arrays have this length. -/
abbrev Config.auxLen : Nat := 5

/-- `N_PINS`, the number of digital pins (R6). -/
abbrev Config.nPins : Nat := 16

/-- `PIN_BASE`, the bit of `digital_io` that holds pin 0 (R6, R180, decision D13; log 16). -/
abbrev Config.pinBase : Nat := 16

/-- What a parameter that the spec leaves open does with bits it names: keep them, or draw them freely (R7). -/
inductive OpenPolicy where
  /-- the bits keep their old values, the spec's default -/
  | unchanged
  /-- the bits take a free value -/
  | anyValue
  deriving DecidableEq, Repr

/-- `TAIL_POLICY`: what a compaction leaves in `W[28-i..27]` (R7, R61, decision D9; log 5). -/
def Config.tailPolicy : OpenPolicy := .unchanged

/-- `LOWHALF_POLICY`: what SETD does to `digital_io[15:0]` (R7, R181, decision D15; log 6). -/
def Config.lowHalfPolicy : OpenPolicy := .unchanged

/-- Free value: byte `j` of the window at draw `n`, where the spec gives it no value (R40, R61; log 1, log 5). -/
opaque Config.freeByte : Nat → Nat → Byte

/-- Free value: the contents of `RXSNAP` at draw `n`, where the spec gives it no value (R40, R236; log 1). -/
opaque Config.freeSnapshot : Nat → Snapshot

/-- Free value: the low half of `digital_io` at draw `n` under the policy `anyValue` (93 U2; log 6). -/
opaque Config.freeLowHalf : Nat → BitVec 16

/-- Free value: byte `n` of what a peer sends that may send anything (R214, 93 U13; log 20). -/
opaque Config.freeStream : Nat → Byte

/-- A window all of whose bytes are free at draw `n`. -/
def Config.freeWindow (n : Nat) : Frame := Vector.ofFn fun j => Config.freeByte n j.val

end Sys2Proof
end

