-- ==== Sys2Proof/Syntax.lean ====
section
/-! DEFINITION. The sixteen operations of rule R95, the words that encode them (R93), and the names under which a word is rejected. -/

namespace Sys2Proof

/-- The operations of the block, one constructor per row of the opcode table (R95).
The FRAME and ACC operations carry their operands; a transition has no explicit operand (R141). -/
inductive Instr where
  /-- ENC: `encode(snapshot, protocol_id) -> bytes[28]` (R111) -/
  | enc (snapshot : Snapshot) (protocolId : Byte)
  /-- VALID: `is_frame_valid(window) -> bool` (R114) -/
  | valid (window : Frame)
  /-- DEC: `decode(window) -> Snapshot` (R116) -/
  | dec (window : Frame)
  /-- START: the caller invokes the Synchronizer (R145) -/
  | start
  /-- WAIT: the transport offers nothing (R147) -/
  | wait
  /-- FILL: one byte of the read (R148) -/
  | fill
  /-- WRESET: the cursor has passed the last position (R149) -/
  | wreset
  /-- SKIP: no start marker at the cursor (R150) -/
  | skip
  /-- CSHORT: a start marker too near the end of the window (R151) -/
  | cshort
  /-- NOCOMP: a start marker whose pair is no complement (R152) -/
  | nocomp
  /-- CUNAL: a candidate that is not at the front (R153) -/
  | cunal
  /-- ENDFAIL: a candidate at the front without end marker (R154) -/
  | endfail
  /-- ACCEPT: the frame is accepted (R155) -/
  | accept
  /-- SETD: `set_digital(pin, state)` on a Snapshot (R181) -/
  | setd (snapshot : Snapshot) (pin : Byte) (state : Bool)
  /-- GETD: `get_digital(pin) -> bool` of a Snapshot (R182) -/
  | getd (snapshot : Snapshot) (pin : Byte)
  /-- SETA: `set_analog(channel, value)` on a Snapshot (R183) -/
  | seta (snapshot : Snapshot) (channel : Byte) (value : BitVec 16)
  deriving DecidableEq, Repr

/-- A word on the ports of one of the six functions: which function runs is a matter of which
ports are used (R38, R93). The ACC words have the Snapshot operand next to the operand word. -/
inductive PortWord where
  /-- the ENC row: the frame pattern of R81, its letters the operand bits -/
  | enc (frame : Frame)
  /-- the VALID row: the 28 bytes on `val_window` -/
  | valid (frame : Frame)
  /-- the DEC row: the 28 bytes on `dec_window` -/
  | dec (frame : Frame)
  /-- the SETD row: `nnnnnnnnv` -/
  | setd (operand : BitVec 9) (snapshot : Snapshot)
  /-- the GETD row: `nnnnnnnn` -/
  | getd (operand : BitVec 8) (snapshot : Snapshot)
  /-- the SETA row: `cccccccc vvvvvvvv vvvvvvvv` -/
  | seta (operand : BitVec 24) (snapshot : Snapshot)
  deriving DecidableEq, Repr

/-- A word of the opcode table: a word on a function's ports, or the selector vector `q[9:0]` of R90. -/
inductive OpWord where
  | port (word : PortWord)
  | sel (q : BitVec 10)
  deriving DecidableEq, Repr

/-- The names under which the decoder rejects a word. -/
inductive DecodeError where
  /-- an ENC word whose offset 0 is not `0x01` (R81) -/
  | encStartMarker
  /-- an ENC word whose offset 2 is not `0x1B` (R81) -/
  | encLength
  /-- an ENC word whose offset 3 is not `0xE4` (R81) -/
  | encLengthComplement
  /-- an ENC word whose offset 27 is not `0x04` (R81) -/
  | encEndMarker
  /-- the selector vector of the idle row `00--------`: nothing happens (R91) -/
  | idleSelector
  deriving DecidableEq, Repr

/-- A row of the selection table of R91: the transition is enabled when `(q & mask) == pattern`. -/
structure SelRow where
  mask : BitVec 10
  pattern : BitVec 10
  transition : Instr
  deriving DecidableEq, Repr

end Sys2Proof
end

