-- ==== Sys2Proof/WellFormed.lean ====
section
/-! DEFINITION. Which instructions and which words are well formed. -/

namespace Sys2Proof

/-- Every instruction is well formed: every value of every field is legal (R16, R99), and an operand
out of range is a legal operand that does nothing (R100). No constructor carries a check. -/
def Instr.wellFormed : Instr → Bool
  | .enc _ _ => true
  | .valid _ => true
  | .dec _ => true
  | .start => true
  | .wait => true
  | .fill => true
  | .wreset => true
  | .skip => true
  | .cshort => true
  | .nocomp => true
  | .cunal => true
  | .endfail => true
  | .accept => true
  | .setd _ _ _ => true
  | .getd _ _ => true
  | .seta _ _ _ => true

/-- A word on a function's ports is well formed: the ENC row has 32 fixed bits, at offsets 0, 2, 3
and 27 (R81); the other rows look at no fixed bit (R82, R93). -/
def PortWord.wellFormed : PortWord → Bool
  | .enc f => f[0] == 0x01 && f[2] == 0x1B && f[3] == 0xE4 && f[27] == 0x04
  | .valid _ => true
  | .dec _ => true
  | .setd _ _ => true
  | .getd _ _ => true
  | .seta _ _ => true

/-- A selector word names a transition unless GO and BUSY are both 0, the idle row (R91). -/
def OpWord.wellFormed : OpWord → Bool
  | .port w => w.wellFormed
  | .sel q => q.getLsbD 9 || q.getLsbD 8

end Sys2Proof
end

