-- ==== Sys2Proof/Decode.lean ====
section
/-! DEFINITION. The frame layout (R80 to R83), the selection table (R91), the decoder of the opcode table's words, and the encoder. -/

namespace Sys2Proof

/-! ## The frame layout -/

/-- A 16-bit field from its two bytes, most significant first (R50). -/
def cat2 (hi lo : Byte) : BitVec 16 := hi ++ lo

/-- A 32-bit field from its four bytes, most significant first (R50). -/
def cat4 (b3 b2 b1 b0 : Byte) : BitVec 32 := b3 ++ b2 ++ b1 ++ b0

/-- The 28 bytes of a Snapshot and a protocol id in the layout of R80, R81: the structural bytes are
constants (R112), fields are big-endian (R50), channels descend (R51), the aux arrays ascend (R54). -/
def packFrame (s : Snapshot) (protocolId : Byte) : Frame :=
  #v[0x01, protocolId, 0x1B, 0xE4,
     s.digitalIo.extractLsb' 24 8, s.digitalIo.extractLsb' 16 8,
     s.digitalIo.extractLsb' 8 8, s.digitalIo.extractLsb' 0 8,
     s.analogIo[3].extractLsb' 8 8, s.analogIo[3].extractLsb' 0 8,
     s.analogIo[2].extractLsb' 8 8, s.analogIo[2].extractLsb' 0 8,
     s.analogIo[1].extractLsb' 8 8, s.analogIo[1].extractLsb' 0 8,
     s.analogIo[0].extractLsb' 8 8, s.analogIo[0].extractLsb' 0 8,
     s.auxFlag,
     s.auxA[0], s.auxA[1], s.auxA[2], s.auxA[3], s.auxA[4],
     s.auxB[0], s.auxB[1], s.auxB[2], s.auxB[3], s.auxB[4],
     0x04]

/-- The Snapshot at offsets 4 to 26 of a frame, the same layout read back (R82, R83, R117). -/
def unpackFrame (f : Frame) : Snapshot where
  digitalIo := cat4 f[4] f[5] f[6] f[7]
  analogIo := #v[cat2 f[14] f[15], cat2 f[12] f[13], cat2 f[10] f[11], cat2 f[8] f[9]]
  auxFlag := f[16]
  auxA := #v[f[17], f[18], f[19], f[20], f[21]]
  auxB := #v[f[22], f[23], f[24], f[25], f[26]]

/-! ## The operand words of the accessors (R93) -/

/-- `pin[7:0]` of `nnnnnnnnv`. -/
def setdPin (w : BitVec 9) : Byte := w.extractLsb' 1 8

/-- `state` of `nnnnnnnnv`. -/
def setdState (w : BitVec 9) : Bool := w.getLsbD 0

/-- `nnnnnnnnv`. -/
def setdWord (pin : Byte) (state : Bool) : BitVec 9 := pin ++ BitVec.ofBool state

/-- `channel[7:0]` of `cccccccc vvvvvvvv vvvvvvvv`. -/
def setaChannel (w : BitVec 24) : Byte := w.extractLsb' 16 8

/-- `value[15:0]` of `cccccccc vvvvvvvv vvvvvvvv`. -/
def setaValue (w : BitVec 24) : BitVec 16 := w.extractLsb' 0 16

/-- `cccccccc vvvvvvvv vvvvvvvv`. -/
def setaWord (channel : Byte) (value : BitVec 16) : BitVec 24 := channel ++ value

/-! ## The selection table (R91) -/

/-- The rows of R91 but for the idle row, in its order. -/
def selRows : List SelRow :=
  [⟨0x300, 0x200, .start⟩,
   ⟨0x1C0, 0x180, .wait⟩,
   ⟨0x1C0, 0x1C0, .fill⟩,
   ⟨0x1A0, 0x120, .wreset⟩,
   ⟨0x1B0, 0x100, .skip⟩,
   ⟨0x1B8, 0x110, .cshort⟩,
   ⟨0x1BC, 0x118, .nocomp⟩,
   ⟨0x1BE, 0x11C, .cunal⟩,
   ⟨0x1BF, 0x11E, .endfail⟩,
   ⟨0x1BF, 0x11F, .accept⟩]

/-- A row covers a selector vector when `(q & mask) == pattern` (R91). -/
def SelRow.covers (r : SelRow) (q : BitVec 10) : Bool := (q &&& r.mask) == r.pattern

/-- The transition that a selector vector picks; none is the idle row (R91). -/
def decodeSel (q : BitVec 10) : Option Instr :=
  (selRows.find? fun r => r.covers q).map (·.transition)

/-! ## The decoder -/

/-- The operation on a function's ports, or the name of what is wrong with an ENC word. -/
def decodePort : PortWord → Except DecodeError Instr
  | .enc f =>
    if f[0] != 0x01 then .error .encStartMarker
    else if f[2] != 0x1B then .error .encLength
    else if f[3] != 0xE4 then .error .encLengthComplement
    else if f[27] != 0x04 then .error .encEndMarker
    else .ok (.enc (unpackFrame f) f[1])
  | .valid f => .ok (.valid f)
  | .dec f => .ok (.dec f)
  | .setd w s => .ok (.setd s (setdPin w) (setdState w))
  | .getd w s => .ok (.getd s w)
  | .seta w s => .ok (.seta s (setaChannel w) (setaValue w))

/-- The operation of a word of the opcode table, or the name under which it is rejected. -/
def decode : OpWord → Except DecodeError Instr
  | .port w => decodePort w
  | .sel q =>
    match decodeSel q with
    | some i => .ok i
    | none => .error .idleSelector

/-! ## The encoder -/

/-- The word of an operation, from the rows of the opcode table; a transition's word is its row's
match number, the bits its row does not look at being 0. -/
def encode : Instr → OpWord
  | .enc s p => .port (.enc (packFrame s p))
  | .valid f => .port (.valid f)
  | .dec f => .port (.dec f)
  | .start => .sel 0x200
  | .wait => .sel 0x180
  | .fill => .sel 0x1C0
  | .wreset => .sel 0x120
  | .skip => .sel 0x100
  | .cshort => .sel 0x110
  | .nocomp => .sel 0x118
  | .cunal => .sel 0x11C
  | .endfail => .sel 0x11E
  | .accept => .sel 0x11F
  | .setd s pin state => .port (.setd (setdWord pin state) s)
  | .getd s pin => .port (.getd pin s)
  | .seta s channel value => .port (.seta (setaWord channel value) s)

/-! ## Table words given as numbers -/

/-- The frame that R10 reads as the 224-bit number `w`: `F[j]` is bits `[223-8j : 216-8j]`. -/
def frameOfNat (w : Nat) : Frame := Vector.ofFn fun j => BitVec.ofNat 8 (w >>> (8 * (27 - j.val)))

/-- The FRAME row of a 28-byte word given without its port: the ENC row where its 32 fixed bits are
there, else the VALID row where its match and mask agree, else the DEC row (R82, R93; log 11). -/
def framePort (f : Frame) : PortWord :=
  if (PortWord.enc f).wellFormed then .enc f
  else if f[0] == 0x01 && f[27] == 0x04 then .valid f
  else .dec f

/-- The word that `nbits` bits of number `w` are, given without its port. The 16-bit words are the
10-bit selector vectors, and where no row of R91 covers one, the 9-bit operand word of SETD; the
Snapshot operand of an ACC word stands above `nbits` and is all zero (log 11). -/
def tableWord (nbits w : Nat) : Option OpWord :=
  match nbits with
  | 8 => if w < 256 then some (.port (.getd (BitVec.ofNat 8 w) Snapshot.zero)) else none
  | 9 => if w < 512 then some (.port (.setd (BitVec.ofNat 9 w) Snapshot.zero)) else none
  | 10 => if w < 1024 then some (.sel (BitVec.ofNat 10 w)) else none
  | 16 =>
    if 1024 ≤ w then none
    else if (decodeSel (BitVec.ofNat 10 w)).isSome then some (.sel (BitVec.ofNat 10 w))
    else if w < 512 then some (.port (.setd (BitVec.ofNat 9 w) Snapshot.zero))
    else none
  | 24 => if w < 2 ^ 24 then some (.port (.seta (BitVec.ofNat 24 w) Snapshot.zero)) else none
  | 224 => if w < 2 ^ 224 then some (.port (framePort (frameOfNat w))) else none
  | _ => none

/-- The instruction that the decoder reads from a word of the opcode table (log 11). -/
def decodeTableWord (nbits w : Nat) : Option Instr :=
  match tableWord nbits w with
  | some word =>
    match decode word with
    | .ok i => some i
    | .error _ => none
  | none => none

end Sys2Proof
end

