-- ==== Sys2Proof/Machine/State.lean ====
section
/-! DEFINITION. The state of the block and of its two neighbours, the reasons a step can stop, and the state after reset (R18, R20, R40). -/

namespace Sys2Proof.Machine

/-- A move of the surroundings, and so of the machine: one step takes one move (R18, R214; log 2). -/
inductive Move where
  /-- the Synchronizer steps, with the level of the `start` input and whether the transport offers
  its next byte in this step if it has one (R37, R141) -/
  | sync (start : Bool) (offer : Bool)
  /-- the caller uses the ports of one of the six functions (R38) -/
  | use (word : PortWord)
  /-- the `rst` input is asserted (R230) -/
  | rst
  /-- these bytes reach the transport from the peer; nothing of the block moves (R15, R214, R235; log 20) -/
  | arrive (bytes : List Byte)
  /-- one byte reaches the transport from a peer that may send anything: a free value (R214; log 20) -/
  | arriveAny
  deriving DecidableEq, Repr

/-- What a function's output port shows for one use (R38). -/
inductive PortResult where
  /-- `enc_frame` -/
  | encFrame (frame : Frame)
  /-- `val_ok` -/
  | valOk (ok : Bool)
  /-- `dec_snapshot` -/
  | decSnapshot (snapshot : Snapshot)
  /-- `sd_result` -/
  | sdResult (snapshot : Snapshot)
  /-- `gd_value` -/
  | gdValue (value : Bool)
  /-- `sa_result` -/
  | saResult (snapshot : Snapshot)
  deriving DecidableEq, Repr

/-- One `Deliver` event: the Snapshot handed to the caller, and how many bytes had been taken since
reset, the `e(n)` of R159 (R15, R155, R163). -/
structure Delivery where
  taken : Nat
  snapshot : Snapshot
  deriving DecidableEq, Repr

/-- The state: the block's five registers (R20), then the transport and the caller (log 2, 4). -/
structure State where
  /-- `W[0..27]`, the window (R21) -/
  w : Frame
  /-- `CUR`, the scan cursor, 0..28 (R25; log 7) -/
  cur : Fin 29
  /-- `NEED`, the bytes still to fetch, 0..28 (R27; log 7) -/
  need : Fin 29
  /-- `BUSY` (R28) -/
  busy : Bool
  /-- `RXSNAP` (R35) -/
  rxsnap : Snapshot
  /-- transport: the bytes not yet taken, in order (R39, R41) -/
  rx : List Byte
  /-- surroundings: the coming moves, each made once (log 2) -/
  script : List Move
  /-- surroundings: the moves made over and over once the script is empty; with both empty the
  Synchronizer steps with `start` 0 and the transport offers what it has (log 2, 20) -/
  habit : List Move
  /-- record: the bytes taken since reset, `T[0], T[1], ...` of R158 (log 4) -/
  given : List Byte
  /-- record: the `Deliver` events since reset, oldest first (log 4) -/
  delivered : List Delivery
  /-- record: what the function ports answered, oldest first (log 4) -/
  results : List PortResult
  /-- the number of the next draw of free values (log 1) -/
  draws : Nat
  deriving DecidableEq, Repr

/-- The block raises no fault of any kind and no step of the model ends in one (R200): this type has
no constructor, so nobody raises one. -/
inductive Fault where
  deriving DecidableEq, Repr

/-- Why a step has no next state. Each is a stop where the block has no behaviour, so each is safe. -/
inductive Refusal where
  /-- raised by exec for an operation without a meaning; no operation is left so. Safe. -/
  | notModelled (mnemonic : String)
  /-- raised by a transition's meaning in a state whose selector vector its row does not match: the
  transition is not enabled there (R91), and `step` never fires it. Safe (log 9). -/
  | notEnabled (mnemonic : String)
  /-- raised by step in a state outside the invariants of R29, which no run reaches (93 U16). Safe (log 8). -/
  | outsideInvariants
  /-- raised by step when the word on a function's ports is no word of the opcode table. Safe (log 10). -/
  | undecodable (reason : DecodeError)
  deriving DecidableEq, Repr

/-- What the next step does, before it is done. -/
inductive Fetched where
  /-- `rst` is asserted -/
  | reset
  /-- bytes reach the transport -/
  | arrival
  /-- the idle row of R91: nothing happens -/
  | idle
  /-- an operation runs -/
  | op (i : Instr)
  /-- the step stops -/
  | stop (r : Refusal)
  deriving DecidableEq, Repr

/-- The document's names for the Synchronizer's conditions, values of `NEED` (R30). -/
inductive Phase where
  | needFull
  | needPartial (n : Nat)
  | haveCandidate
  deriving DecidableEq, Repr

/-- The event labels of R166, with their data. -/
inductive Label where
  | start
  | wait
  | fill (b : Byte)
  | wreset
  | skip
  | cshort (i : Nat)
  | nocomp
  | cunal (i : Nat)
  | endfail
  | accept (s : Snapshot)
  deriving DecidableEq, Repr

/-- The machine right after reset (R40): `BUSY = 0`, `NEED = 28`, `CUR = 0`; `W` and `RXSNAP` are
unspecified and hold free values (log 1); the surroundings have done nothing yet (log 2). -/
def State.reset : State :=
  { w := Config.freeWindow 0
    cur := 0
    need := 28
    busy := false
    rxsnap := Config.freeSnapshot 0
    rx := []
    script := []
    habit := []
    given := []
    delivered := []
    results := []
    draws := 1 }

end Sys2Proof.Machine
end

