-- ==== Sys2Proof/Machine/Ops.lean ====
section
/-! DEFINITION. The named operations on the state: the inputs of a step, the moves of the window and the counters, the primitives RxByte and Deliver, and reset. The block takes no exception (R200, R207): the handing over of a Snapshot by ACCEPT is the nearest thing, `State.acceptFrame`. -/

namespace Sys2Proof.Machine

/-! ## The inputs of the coming step -/

/-- The moves that come: the script, and once it is empty the habit, from its beginning (log 2, 20).
DESIGN CHOICE: the fairness that R162 says a model needs is not built in: a habit without a Synchronizer
move keeps an enabled transition from ever firing, so a claim of progress assumes that Synchronizer moves
keep coming (log 21). -/
def State.queue (s : State) : List Move :=
  match s.script with
  | [] => s.habit
  | m :: l => m :: l

/-- The coming move: the first that comes, and where none does a Synchronizer step with `start` 0 in
which the transport offers what it has (log 2). -/
def State.move (s : State) : Move :=
  match s.queue with
  | m :: _ => m
  | [] => .sync false true

/-- The `start` input (R37); it is looked at only in a Synchronizer step. -/
def State.startIn (s : State) : Bool :=
  match s.move with
  | .sync start _ => start
  | .use _ => false
  | .rst => false
  | .arrive _ => false
  | .arriveAny => false

/-- `rx_data` when `rx_valid` is 1, none when it is 0 (R37): the next byte of the transport, if it
has one and offers it in this step. -/
def State.offered (s : State) : Option Byte :=
  match s.move with
  | .sync _ true => s.rx.head?
  | .sync _ false => none
  | .use _ => none
  | .rst => none
  | .arrive _ => none
  | .arriveAny => none

/-- The bytes that reach the transport in this step (R15, R214; log 20). -/
def State.arrived (s : State) : List Byte :=
  match s.move with
  | .arrive bytes => bytes
  | .arriveAny => [Config.freeStream s.draws]
  | .sync _ _ => []
  | .use _ => []
  | .rst => []

/-- The bytes that reach the transport wait behind those it holds (R214, R235; log 20).
The draws are counted in every arrival, so that no two free bytes are the same draw. -/
def State.receive (s : State) : State := { s with rx := s.rx ++ s.arrived, draws := s.draws + 1 }

/-- The move has been made. -/
def State.popMove (s : State) : State := { s with script := s.queue.tail }

/-! ## The window (R60) -/

/-- `Compact(i)`: `W[j] <- W[i+j]` for `j` in `0..27-i` (R60). The tail `W[28-i..27]` follows
`TAIL_POLICY`: it keeps its bytes, or takes those of `fresh` (R61). -/
def compact (policy : OpenPolicy) (fresh : Frame) (i : Nat) (w : Frame) : Frame :=
  Vector.ofFn fun j : Fin 28 =>
    if h : i + j.val < 28 then w[i + j.val]
    else match policy with
      | .unchanged => w[j.val]
      | .anyValue => fresh[j.val]

/-- How many draws an open parameter uses. -/
def policyDraws : OpenPolicy → Nat
  | .unchanged => 0
  | .anyValue => 1

/-! ## The counters (R17) -/

/-- `CUR + 1`; it never wraps and never exceeds 28 (R17). -/
def cursorNext (c : Fin 29) : Fin 29 := ⟨min (c.val + 1) 28, by omega⟩

/-- `NEED - 1`; it never goes below 0 (R17). -/
def needPred (n : Fin 29) : Fin 29 := ⟨n.val - 1, by omega⟩

/-! ## What a transition writes -/

/-- `BUSY <- b`. -/
def State.setBusy (s : State) (b : Bool) : State := { s with busy := b }

/-- `CUR <- c`. -/
def State.setCur (s : State) (c : Fin 29) : State := { s with cur := c }

/-- `NEED <- 28; CUR <- 0`: ask for a whole new window (R149). -/
def State.refill (s : State) : State := { s with need := 28, cur := 0 }

/-- `b <- RxByte(); W[28 - NEED] <- b; NEED <- NEED - 1` (R148): the byte leaves the transport (R15, R59). -/
def State.takeByte (s : State) (b : Byte) : State :=
  { s with
    w := s.w.setIfInBounds (28 - s.need.val) b
    need := needPred s.need
    rx := s.rx.tail
    given := s.given ++ [b] }

/-- `Compact(CUR); NEED <- CUR; CUR <- 0`, the effect of both compacting transitions (R144, R151, R153). -/
def State.compactCursor (s : State) : State :=
  { s with
    w := compact Config.tailPolicy (Config.freeWindow s.draws) s.cur.val s.w
    need := s.cur
    cur := 0
    draws := s.draws + policyDraws Config.tailPolicy }

/-- `Deliver(S)`: the callback `on_receive` is handed the Snapshot, once, at this moment (R15). -/
def State.deliver (s : State) (snapshot : Snapshot) : State :=
  { s with delivered := s.delivered ++ [⟨s.given.length, snapshot⟩] }

/-- The five assignments of ACCEPT, one atomic step (R155): `RXSNAP <- S; Deliver(RXSNAP); NEED <- 28;
CUR <- 0; BUSY <- 0`. -/
def State.acceptFrame (s : State) (snapshot : Snapshot) : State :=
  { (s.deliver snapshot) with rxsnap := snapshot, need := 28, cur := 0, busy := false }

/-- A function's output port shows a result; nothing of the block changes (R38, R110). -/
def State.pushResult (s : State) (r : PortResult) : State := { s with results := s.results ++ [r] }

/-- `rst` is asserted: the registers take the values of R40, `W` and `RXSNAP` being free values drawn
anew, no byte is taken, and what is recorded since reset begins again (R230; log 1, 4, 13). -/
def State.resetBlock (s : State) : State :=
  { s with
    w := Config.freeWindow s.draws
    cur := 0
    need := 28
    busy := false
    rxsnap := Config.freeSnapshot s.draws
    given := []
    delivered := []
    draws := s.draws + 1 }

end Sys2Proof.Machine
end

