-- ==== Sys2Proof/Machine/Operands.lean ====
section
/-! DEFINITION. The operand forms: reads and writes of fields in a 28-byte buffer (R13), the pin and channel operands of the accessors (R180, R184), and the bits they address. -/

namespace Sys2Proof.Machine

/-- Byte `j` of a buffer, for the numbers that are offsets. DESIGN CHOICE: for a `j` above 27, where R13
leaves the reads that would use it undefined, it is 0 (log 19); no operation reads there. -/
def byteAt (b : Frame) (j : Nat) : Byte := b[j]?.getD 0

/-- `BE(B, addr, n)`, and `MemRead(addr, n)` when `B` is the window: the `n` bytes from `addr`, the
first the most significant (R13). R13 defines it for `addr + n <= 28` only; DESIGN CHOICE: beyond, it is
total and the bytes that do not exist read as 0 (log 19). -/
def readBE (b : Frame) (addr : Nat) : (n : Nat) → BitVec (8 * n)
  | 0 => 0#0
  | n + 1 => readBE b addr n ++ byteAt b (addr + n)

/-- `MemWrite(addr, n, v)`: `F[addr+k] <- v[8(n-k)-1 : 8(n-k-1)]` for `k` in `0..n-1` (R13).
DESIGN CHOICE: where `addr + n > 28`, which R13 leaves undefined, the bytes beyond offset 27 are dropped (log 19). -/
def writeBE (b : Frame) (addr n : Nat) (v : BitVec (8 * n)) : Frame :=
  (List.range n).foldl (fun f k => f.setIfInBounds (addr + k) (v.extractLsb' (8 * (n - k - 1)) 8)) b

/-- A pin operand is in range iff its 8 bits, unsigned, are at most 15 (R184). -/
def pinInRange (pin : Byte) : Bool := pin ≤ 15

/-- A channel operand is in range iff its 8 bits, unsigned, are at most 3 (R184). -/
def channelInRange (channel : Byte) : Bool := channel ≤ 3

/-- The bit of `digital_io` that holds a pin (R180). -/
def pinBit (pin : Byte) : Nat := Config.pinBase + pin.toNat

/-- The mask `1 << (16 + pin)` of R181. -/
def pinMask (pin : Byte) : BitVec 32 := 1#32 <<< pinBit pin

/-- `digital_io[16 + pin] <- state`, all other bits kept (R181). -/
def writePin (d : BitVec 32) (pin : Byte) (state : Bool) : BitVec 32 :=
  if state then d ||| pinMask pin else d &&& ~~~pinMask pin

/-- `digital_io[16 + pin]` (R182). -/
def readPin (d : BitVec 32) (pin : Byte) : Bool := d.getLsbD (pinBit pin)

/-- What SETD leaves in `digital_io[15:0]`: `LOWHALF_POLICY` (R7, R181; log 6). -/
def lowHalf (policy : OpenPolicy) (fresh : BitVec 16) (d : BitVec 32) : BitVec 32 :=
  match policy with
  | .unchanged => d
  | .anyValue => d.extractLsb' 16 16 ++ fresh

end Sys2Proof.Machine
end

