-- ==== Sys2Proof/Machine/Flags.lean ====
section
/-! DEFINITION. What is computed from the state and never stored: the selector vector (R90), the status outputs (R36), the invariants that tie the control registers (R29), and the names of R30. The block has no condition codes (R36). -/

namespace Sys2Proof.Machine

/-! ## The selector vector (R90) -/

/-- Window byte `j` exists and equals `b`. -/
def State.winIs (s : State) (j : Nat) (b : Byte) : Bool := s.w[j]? == some b

/-- Window bytes `j` and `k` exist and are complements: their exclusive or is `0xFF`. -/
def State.winPair (s : State) (j k : Nat) : Bool :=
  match s.w[j]?, s.w[k]? with
  | some a, some b => (a ^^^ b) == 0xFF
  | _, _ => false

/-- `q[9]`: the `start` input is 1. -/
def State.flagGo (s : State) : Bool := s.startIn

/-- `q[8]`: the register `BUSY` is 1. -/
def State.flagBusy (s : State) : Bool := s.busy

/-- `q[7]`: `NEED != 0`. -/
def State.flagNz (s : State) : Bool := s.need != 0

/-- `q[6]`: the transport offers a byte. -/
def State.flagRxv (s : State) : Bool := s.offered.isSome

/-- `q[5]`: `NEED == 0 AND CUR == 28`. -/
def State.flagEnd (s : State) : Bool := s.need == 0 && s.cur == 28

/-- `q[4]`: `NEED == 0 AND CUR < 28 AND W[CUR] == 0x01`. -/
def State.flagSoh (s : State) : Bool := s.need == 0 && s.winIs s.cur.val Config.soh

/-- `q[3]`: `CUR + 3 < 28`. -/
def State.flagRoom (s : State) : Bool := decide (s.cur.val + 3 < Config.windowSize)

/-- `q[2]`: `NEED == 0 AND CUR <= 24 AND (W[CUR+2] ^ W[CUR+3]) == 0xFF`. -/
def State.flagCmp (s : State) : Bool := s.need == 0 && s.winPair (s.cur.val + 2) (s.cur.val + 3)

/-- `q[1]`: `CUR == 0`. -/
def State.flagFront (s : State) : Bool := s.cur == 0

/-- `q[0]`: `NEED == 0 AND W[27] == 0x04`. -/
def State.flagEot (s : State) : Bool := s.need == 0 && s.winIs 27 Config.eot

/-- The selector vector `q[9:0]` of ten truth values, GO the most significant (R90). -/
def selectorWord (go busy nz rxv atEnd soh room cmp front eot : Bool) : BitVec 10 :=
  BitVec.ofBoolListBE [go, busy, nz, rxv, atEnd, soh, room, cmp, front, eot]

/-- The selector vector of a state and its inputs (R90). -/
def State.selector (s : State) : BitVec 10 :=
  selectorWord s.flagGo s.flagBusy s.flagNz s.flagRxv s.flagEnd s.flagSoh s.flagRoom s.flagCmp
    s.flagFront s.flagEot

/-! ## The invariants of the control registers (R29) -/

/-- R29 (a) and (b); (c) holds by the types of `CUR` and `NEED` (log 7). -/
def State.legal (s : State) : Bool :=
  (s.need == 0 || s.cur == 0) && (s.busy || (s.need == 28 && s.cur == 0))

/-! ## Status outputs (R36, R37) -/

/-- `rst` is asserted in the coming step. -/
def State.rstIn (s : State) : Bool := s.move == .rst

/-- The `busy` output; all status outputs are 0 while `rst` is asserted (R36, R40, R230). -/
def State.busyOut (s : State) : Bool := !s.rstIn && s.busy

/-- The `rx_ready` output: `BUSY == 1 AND NEED != 0` (R36). -/
def State.rxReady (s : State) : Bool := !s.rstIn && s.busy && s.need != 0

/-- The `snap_*` outputs: the fields of `RXSNAP` at any time (R35, R37). -/
def State.snapOut (s : State) : Snapshot := s.rxsnap

/-! ## The names of R30 -/

/-- `NEED_FULL`, `NEED_PARTIAL(n)`, `HAVE_CANDIDATE`: conditions on `NEED` (R30). -/
def State.phase (s : State) : Phase :=
  if s.need = 28 then .needFull
  else if s.need = 0 then .haveCandidate
  else .needPartial s.need.val

end Sys2Proof.Machine
end

