-- ==== Sys2Proof/Machine/Codec.lean ====
section
/-! DEFINITION. The FrameCodec operations ENC, VALID, DEC (rules R110 to R119): pure functions on their own ports. -/

namespace Sys2Proof.Machine

/-- ENC(S, P) (R111 to R113): the frame of R81. -/
def encFrame (snapshot : Snapshot) (protocolId : Byte) : Frame := packFrame snapshot protocolId

/-- VALID(B) (R114, R115): the three tests on offsets 0, 2, 3 and 27, and nothing else. -/
def validFrame (b : Frame) : Bool :=
  b[0] == Config.soh && (b[2] ^^^ b[3]) == 0xFF && b[27] == Config.eot

/-- DEC(B) (R116 to R119): the fields at offsets 4 to 26 of any 28 bytes. -/
def decFrame (b : Frame) : Snapshot := unpackFrame b

/-- ENC on its ports: `enc_frame` shows the frame (R38, R111). -/
def execEnc (snapshot : Snapshot) (protocolId : Byte) (s : State) : Host.Outcome State Fault Refusal :=
  .next (s.pushResult (.encFrame (encFrame snapshot protocolId)))

/-- VALID on its ports: `val_ok` shows the truth value (R38, R114). -/
def execValid (window : Frame) (s : State) : Host.Outcome State Fault Refusal :=
  .next (s.pushResult (.valOk (validFrame window)))

/-- DEC on its ports: `dec_snapshot` shows the Snapshot (R38, R116). -/
def execDec (window : Frame) (s : State) : Host.Outcome State Fault Refusal :=
  .next (s.pushResult (.decSnapshot (decFrame window)))

end Sys2Proof.Machine
end

