-- ==== Sys2Proof/Machine/Accessors.lean ====
section
/-! DEFINITION. The Snapshot accessors SETD, GETD, SETA (rules R180 to R186): pure functions of a Snapshot the caller owns; operands out of range do nothing. -/

namespace Sys2Proof.Machine

/-- SETD(S, pin, state) (R181), with `LOWHALF_POLICY` and the bits it would draw as arguments (log 6). -/
def setDigital (policy : OpenPolicy) (fresh : BitVec 16) (snapshot : Snapshot) (pin : Byte) (state : Bool) :
    Snapshot :=
  if pinInRange pin then
    { snapshot with digitalIo := lowHalf policy fresh (writePin snapshot.digitalIo pin state) }
  else snapshot

/-- GETD(S, pin) (R182). -/
def getDigital (snapshot : Snapshot) (pin : Byte) : Bool :=
  if pinInRange pin then readPin snapshot.digitalIo pin else false

/-- SETA(S, channel, value) (R183). -/
def setAnalog (snapshot : Snapshot) (channel : Byte) (value : BitVec 16) : Snapshot :=
  if channelInRange channel then
    { snapshot with analogIo := snapshot.analogIo.setIfInBounds channel.toNat value }
  else snapshot

/-- The draws are counted when SETD used one (log 6). -/
def State.drawLowHalf (s : State) : State :=
  { s with draws := s.draws + policyDraws Config.lowHalfPolicy }

/-- SETD on its ports: `sd_result` shows the Snapshot (R38, R181). -/
def execSetd (snapshot : Snapshot) (pin : Byte) (state : Bool) (s : State) :
    Host.Outcome State Fault Refusal :=
  .next (s.drawLowHalf.pushResult
    (.sdResult (setDigital Config.lowHalfPolicy (Config.freeLowHalf s.draws) snapshot pin state)))

/-- GETD on its ports: `gd_value` shows the bit (R38, R182). -/
def execGetd (snapshot : Snapshot) (pin : Byte) (s : State) : Host.Outcome State Fault Refusal :=
  .next (s.pushResult (.gdValue (getDigital snapshot pin)))

/-- SETA on its ports: `sa_result` shows the Snapshot (R38, R183). -/
def execSeta (snapshot : Snapshot) (channel : Byte) (value : BitVec 16) (s : State) :
    Host.Outcome State Fault Refusal :=
  .next (s.pushResult (.saResult (setAnalog snapshot channel value)))

end Sys2Proof.Machine
end

