-- ==== Sys2Proof/Machine/Synchronizer.lean ====
section
/-! DEFINITION. The ten transitions of the Synchronizer (rules R145 to R155). A transition is enabled when its row of R91 covers the selector vector; only then has it an effect (log 9). -/

namespace Sys2Proof.Machine

/-- A transition is enabled when it is the one that the selector vector picks (R91). -/
def State.enabled (s : State) (i : Instr) : Bool := decodeSel s.selector == some i

/-- A transition fires to `t` if it is enabled; if not, it is refused by name (R91; log 9). -/
def fire (mnemonic : String) (i : Instr) (s t : State) : Host.Outcome State Fault Refusal :=
  if s.enabled i then .next t else .refused (.notEnabled mnemonic)

/-- START: `BUSY <- 1` (R145). -/
def execStart (s : State) : Host.Outcome State Fault Refusal := fire "START" .start s (s.setBusy true)

/-- WAIT: no state change (R147). -/
def execWait (s : State) : Host.Outcome State Fault Refusal := fire "WAIT" .wait s s

/-- FILL: the offered byte goes to `W[28 - NEED]`, and `NEED <- NEED - 1` (R148). -/
def execFill (s : State) : Host.Outcome State Fault Refusal :=
  fire "FILL" .fill s (match s.offered with | some b => s.takeByte b | none => s)

/-- WRESET: `NEED <- 28; CUR <- 0` (R149). -/
def execWreset (s : State) : Host.Outcome State Fault Refusal := fire "WRESET" .wreset s s.refill

/-- SKIP: `CUR <- CUR + 1` (R150). -/
def execSkip (s : State) : Host.Outcome State Fault Refusal :=
  fire "SKIP" .skip s (s.setCur (cursorNext s.cur))

/-- CSHORT: `Compact(CUR); NEED <- CUR; CUR <- 0` (R151). -/
def execCshort (s : State) : Host.Outcome State Fault Refusal := fire "CSHORT" .cshort s s.compactCursor

/-- NOCOMP: `CUR <- CUR + 1` (R152). -/
def execNocomp (s : State) : Host.Outcome State Fault Refusal :=
  fire "NOCOMP" .nocomp s (s.setCur (cursorNext s.cur))

/-- CUNAL: `Compact(CUR); NEED <- CUR; CUR <- 0` (R153). -/
def execCunal (s : State) : Host.Outcome State Fault Refusal := fire "CUNAL" .cunal s s.compactCursor

/-- ENDFAIL: `CUR <- 1` (R154). -/
def execEndfail (s : State) : Host.Outcome State Fault Refusal := fire "ENDFAIL" .endfail s (s.setCur 1)

/-- ACCEPT: `RXSNAP <- DEC(W); Deliver(RXSNAP); NEED <- 28; CUR <- 0; BUSY <- 0` (R155). -/
def execAccept (s : State) : Host.Outcome State Fault Refusal :=
  fire "ACCEPT" .accept s (s.acceptFrame (decFrame s.w))

end Sys2Proof.Machine
end

