-- ==== Sys2Proof/Machine/Dispatch.lean ====
section
/-! DEFINITION. One arm per operation of rule R95, each one call of its meaning. -/

namespace Sys2Proof.Machine

/-- What an operation does. -/
def exec (i : Instr) (s : State) : Host.Outcome State Fault Refusal :=
  match i with
  | .enc snapshot protocolId => Sys2Proof.Machine.execEnc snapshot protocolId s
  | .valid window => Sys2Proof.Machine.execValid window s
  | .dec window => Sys2Proof.Machine.execDec window s
  | .start => Sys2Proof.Machine.execStart s
  | .wait => Sys2Proof.Machine.execWait s
  | .fill => Sys2Proof.Machine.execFill s
  | .wreset => Sys2Proof.Machine.execWreset s
  | .skip => Sys2Proof.Machine.execSkip s
  | .cshort => Sys2Proof.Machine.execCshort s
  | .nocomp => Sys2Proof.Machine.execNocomp s
  | .cunal => Sys2Proof.Machine.execCunal s
  | .endfail => Sys2Proof.Machine.execEndfail s
  | .accept => Sys2Proof.Machine.execAccept s
  | .setd snapshot pin state => Sys2Proof.Machine.execSetd snapshot pin state s
  | .getd snapshot pin => Sys2Proof.Machine.execGetd snapshot pin s
  | .seta snapshot channel value => Sys2Proof.Machine.execSeta snapshot channel value s

end Sys2Proof.Machine
end

