-- ==== Sys2Proof/Machine/Fetch.lean ====
section
/-! DEFINITION. What the next step does: the coming move, and in a Synchronizer step the selector vector, pick the operation (R90, R91, R93, R156); the output `snap_valid`; the labels of R166; and how a word of the opcode table is placed so that the next step runs it. -/

namespace Sys2Proof.Machine

/-- What the next step does. In a Synchronizer step the selector vector picks the transition (R91); a
state outside the invariants of R29 is refused there (93 U16; log 8). The functions work on their
own ports whatever the Synchronizer's state is (R38). -/
def State.fetch (s : State) : Fetched :=
  match s.move with
  | .rst => .reset
  | .arrive _ => .arrival
  | .arriveAny => .arrival
  | .use word =>
    match decodePort word with
    | .ok i => .op i
    | .error e => .stop (.undecodable e)
  | .sync _ _ =>
    if s.legal then
      match decodeSel s.selector with
      | some i => .op i
      | none => .idle
    else .stop .outsideInvariants

/-- The `snap_valid` output: true during the ACCEPT transition and at no other time (R36, R205; log 15). -/
def State.snapValid (s : State) : Bool := s.fetch == .op .accept

/-- The label of the coming step with its data, none where no transition fires (R166). -/
def State.label (s : State) : Option Label :=
  match s.fetch with
  | .op .start => some .start
  | .op .wait => some .wait
  | .op .fill => s.offered.map .fill
  | .op .wreset => some .wreset
  | .op .skip => some .skip
  | .op .cshort => some (.cshort s.cur.val)
  | .op .nocomp => some .nocomp
  | .op .cunal => some (.cunal s.cur.val)
  | .op .endfail => some .endfail
  | .op .accept => some (.accept (decFrame s.w))
  | .op (.enc _ _) => none
  | .op (.valid _) => none
  | .op (.dec _) => none
  | .op (.setd _ _ _) => none
  | .op (.getd _ _) => none
  | .op (.seta _ _ _) => none
  | .reset => none
  | .arrival => none
  | .idle => none
  | .stop _ => none

/-- A step ends: a next state has made its move. -/
def finish (o : Host.Outcome State Fault Refusal) : Host.Outcome State Fault Refusal :=
  match o with
  | .next t => .next t.popMove
  | .fault r => .fault r
  | .refused r => .refused r

/-! ## Placing a word (log 12) -/

/-- The bytes of the list at their window indices. -/
def setBytes (w : Frame) (l : List (Nat × Byte)) : Frame :=
  l.foldl (fun f p => f.setIfInBounds p.1 p.2) w

/-- The state scanning at cursor `c`, with the window bytes of the list in place. -/
def State.scanAt (s : State) (c : Fin 29) (l : List (Nat × Byte)) : State :=
  { s with busy := true, need := 0, cur := c, w := setBytes s.w l, script := .sync false false :: s.script }

/-- The state in which a transition is enabled: what its row of R91 looks at is set, the rest kept. -/
def State.placeTransition (s : State) (i : Instr) : State :=
  match i with
  | .start => { s with busy := false, need := 28, cur := 0, script := .sync true false :: s.script }
  | .wait => { s with busy := true, need := 28, cur := 0, script := .sync false false :: s.script }
  | .fill =>
    { s with
      busy := true, need := 28, cur := 0
      rx := if s.rx.isEmpty then [0x00] else s.rx
      script := .sync false true :: s.script }
  | .wreset => s.scanAt 28 [(27, 0x00)]
  | .skip => s.scanAt 0 [(0, 0x00), (2, 0x00), (3, 0x00), (27, 0x00)]
  | .cshort => s.scanAt 25 [(25, 0x01), (27, 0x00)]
  | .nocomp => s.scanAt 0 [(0, 0x01), (2, 0x00), (3, 0x00), (27, 0x00)]
  | .cunal => s.scanAt 1 [(1, 0x01), (3, 0x1B), (4, 0xE4), (27, 0x00)]
  | .endfail => s.scanAt 0 [(0, 0x01), (2, 0x1B), (3, 0xE4), (27, 0x00)]
  | .accept => s.scanAt 0 [(0, 0x01), (2, 0x1B), (3, 0xE4), (27, 0x04)]
  | .enc _ _ => s
  | .valid _ => s
  | .dec _ => s
  | .setd _ _ _ => s
  | .getd _ _ => s
  | .seta _ _ _ => s

/-- The state whose next step runs the operation of a table word: a function's word is the caller's
coming move, a selector vector's transition is enabled; a word that is none leaves the state alone. -/
def State.placeWord (s : State) (nbits w : Nat) : State :=
  match tableWord nbits w with
  | some (.port word) => { s with script := .use word :: s.script }
  | some (.sel q) =>
    match decodeSel q with
    | some i => s.placeTransition i
    | none => s
  | none => s

end Sys2Proof.Machine
end

