-- ==== Sys2Proof/Machine/Step.lean ====
section
/-! DEFINITION. One step of the machine (R8, R156): the coming move is made. -/

namespace Sys2Proof.Machine

/-- One step: `rst`, or bytes reach the transport, or the idle row, or one operation; then the move has
been made (log 2). -/
def step (s : State) : Host.Outcome State Fault Refusal :=
  match s.fetch with
  | .reset => .next s.resetBlock.popMove
  | .arrival => .next s.receive.popMove
  | .idle => .next s.popMove
  | .op i => finish (exec i s)
  | .stop r => .refused r

/-- The state whose next step runs the operation of the table word `w` of `nbits` bits (log 12). -/
def State.withFetchWord (s : State) (nbits w : Nat) : State := s.placeWord nbits w

end Sys2Proof.Machine
end

