-- ==== Sys2Proof/Safety.lean ====
section
/-! DEFINITION. The vocabulary of the claims: positions of the byte stream at which the three tests pass or fail, what the deliveries must be, the mirror of the stream in the window, the step function of R156 written out, the shift register of R164. Nothing in the machine uses these. -/

namespace Sys2Proof.Safety

open Sys2Proof.Machine

/-! ## Positions of the stream (R159) -/

/-- `P(o)` of R159: `T[o] == 0x01 AND (T[o+2] ^ T[o+3]) == 0xFF AND T[o+27] == 0x04`. -/
def matchesAt (T : List Byte) (o : Nat) : Bool :=
  T[o]? == some 0x01
    && (match T[o + 2]?, T[o + 3]? with
        | some a, some b => (a ^^^ b) == 0xFF
        | _, _ => false)
    && T[o + 27]? == some 0x04

/-- One of the three tests at position `o` has been seen to fail on bytes that are there (R159). -/
def refutedAt (T : List Byte) (o : Nat) : Bool :=
  (match T[o]? with
    | some a => a != 0x01
    | none => false)
  || (match T[o + 2]?, T[o + 3]? with
    | some a, some b => (a ^^^ b) != 0xFF
    | _, _ => false)
  || (match T[o + 27]? with
    | some a => a != 0x04
    | none => false)

/-- The 28 bytes of the stream at position `o`. -/
def frameAt (T : List Byte) (o : Nat) : Frame := Vector.ofFn fun j : Fin 28 => T.getD (o + j.val) 0

/-- The deliveries, from the stream position `e` on, are those of the first-match law (R159): each
accepts the least position at which the three tests pass, not before the end of the frame accepted
before it, delivers DEC of the 28 bytes there, and does so when exactly those bytes and all before
them have been taken. -/
def firstMatches (T : List Byte) : Nat → List Delivery → Prop
  | _, [] => True
  | e, d :: ds =>
    ∃ o, e ≤ o ∧ matchesAt T o = true ∧ (∀ p, e ≤ p → p < o → matchesAt T p = false)
      ∧ d.taken = o + 28 ∧ d.snapshot = decFrame (frameAt T o) ∧ firstMatches T (o + 28) ds

/-- The `e(n)` of R159: the bytes taken at the last delivery, 0 before the first. -/
def lastEnd : List Delivery → Nat
  | [] => 0
  | [d] => d.taken
  | _ :: d :: ds => lastEnd (d :: ds)

/-! ## Invariants -/

/-- `base` of R158, the stream position of `W[0]`: `c - (28 - NEED)`. -/
def base (s : State) : Nat := s.given.length + s.need.val - 28

/-- R158: the valid part of the window is the most recent `28 - NEED` bytes taken, in order. -/
structure Mirror (s : State) : Prop where
  enough : 28 ≤ s.given.length + s.need.val
  bytes : ∀ j : Fin 28, j.val < 28 - s.need.val → s.given[base s + j.val]? = some s.w[j]

/-- R29 with R24 in the form of R158. -/
structure WindowInv (s : State) : Prop where
  legal : s.legal = true
  mirror : Mirror s

/-- The invariant of R159: every position from the end of the last accepted frame up to `base + CUR`
has been seen to fail a test, and the deliveries so far are the first matches. -/
structure SearchInv (s : State) : Prop where
  window : WindowInv s
  order : lastEnd s.delivered ≤ base s
  searched : ∀ o, lastEnd s.delivered ≤ o → o < base s + s.cur.val → refutedAt s.given o = true
  deliveries : firstMatches s.given 0 s.delivered

/-! ## What reaches the transport along a run -/

/-- The bytes that reach the transport in `n` steps from a state, in order, up to a stop (log 20). -/
def arrivals : Nat → State → List Byte
  | 0, _ => []
  | n + 1, s =>
    s.arrived ++
      match step s with
      | .next t => arrivals n t
      | .fault _ => []
      | .refused _ => []

/-! ## What a state and its twin share -/

/-- Two states agree but for window bytes that are not valid: `W[28-NEED..27]` may differ (R24). -/
structure AgreeOnValid (s t : State) : Prop where
  cur : s.cur = t.cur
  need : s.need = t.need
  busy : s.busy = t.busy
  rxsnap : s.rxsnap = t.rxsnap
  rx : s.rx = t.rx
  script : s.script = t.script
  habit : s.habit = t.habit
  given : s.given = t.given
  delivered : s.delivered = t.delivered
  results : s.results = t.results
  draws : s.draws = t.draws
  valid : ∀ j : Fin 28, j.val < 28 - s.need.val → s.w[j] = t.w[j]

/-- Two outcomes are the same stop, or next states that agree but for bytes that are not valid. -/
def sameOutcome : Host.Outcome State Fault Refusal → Host.Outcome State Fault Refusal → Prop
  | .next s, .next t => AgreeOnValid s t
  | .refused q, .refused r => q = r
  | .fault _, _ => False
  | .next _, .refused _ => False
  | .next _, .fault _ => False
  | .refused _, .next _ => False
  | .refused _, .fault _ => False

/-- The registers of the block and the two neighbours are untouched: only the function ports' record
and the count of draws may differ (R38, R110). -/
structure BlockUntouched (s t : State) : Prop where
  w : t.w = s.w
  cur : t.cur = s.cur
  need : t.need = s.need
  busy : t.busy = s.busy
  rxsnap : t.rxsnap = s.rxsnap
  rx : t.rx = s.rx
  script : t.script = s.script
  habit : t.habit = s.habit
  given : t.given = s.given
  delivered : t.delivered = s.delivered

/-! ## The step function of R156, written out -/

/-- `Step(start, rx_valid, rx_data)` of R156, an input byte standing for `rx_valid` 1. -/
def stepR156 (start : Bool) (input : Option Byte) (s : State) : State :=
  if s.busy = false then
    if start then { s with busy := true } else s
  else if s.need.val ≠ 0 then
    match input with
    | none => s
    | some b =>
      { s with
        w := s.w.setIfInBounds (28 - s.need.val) b
        need := ⟨s.need.val - 1, by omega⟩
        rx := s.rx.drop 1
        given := s.given ++ [b] }
  else if h : s.cur.val < 28 then
    if s.w[s.cur.val] ≠ 0x01 then { s with cur := ⟨s.cur.val + 1, by omega⟩ }
    else if hr : s.cur.val + 3 < 28 then
      if s.w[s.cur.val + 2] ^^^ s.w[s.cur.val + 3] ≠ 0xFF then { s with cur := ⟨s.cur.val + 1, by omega⟩ }
      else if s.cur.val ≠ 0 then compacted s
      else if s.w[27] ≠ 0x04 then { s with cur := 1 }
      else
        { s with
          rxsnap := decFrame s.w
          delivered := s.delivered ++ [⟨s.given.length, decFrame s.w⟩]
          need := 28
          cur := 0
          busy := false }
    else compacted s
  else { s with need := 28, cur := 0 }
where
  /-- `Compact(CUR); NEED <- CUR; CUR <- 0`, the tail keeping its bytes (R60, R61). -/
  compacted (s : State) : State :=
    { s with
      w := Vector.ofFn fun j : Fin 28 => if h : s.cur.val + j.val < 28 then s.w[s.cur.val + j.val] else s.w[j]
      need := s.cur
      cur := 0 }

/-! ## The shift register of R164 -/

/-- The other implementation that R164 allows: a register of 28 bytes, the bytes taken since the last
`Deliver` (or reset), the bytes taken in all, and what it has delivered. -/
structure ShiftReg where
  reg : Frame
  since : Nat
  taken : Nat
  out : List Delivery

/-- The register after a byte has been shifted in: `reg[j] <- reg[j+1]`, the new byte at index 27. -/
def shiftIn (r : Frame) (b : Byte) : Frame :=
  Vector.ofFn fun j : Fin 28 => if h : j.val + 1 < 28 then r[j.val + 1] else b

/-- It shifts in every byte taken and accepts as soon as the count is at least 28 and VALID holds (R164). -/
def ShiftReg.take (r : ShiftReg) (b : Byte) : ShiftReg :=
  let reg := shiftIn r.reg b
  if 28 ≤ r.since + 1 && validFrame reg then
    { reg := reg, since := 0, taken := r.taken + 1, out := r.out ++ [⟨r.taken + 1, decFrame reg⟩] }
  else { r with reg := reg, since := r.since + 1, taken := r.taken + 1 }

/-- What the shift register delivers from a stream, whatever its register held at first. -/
def shiftDeliveries (r0 : Frame) (T : List Byte) : List Delivery :=
  (T.foldl ShiftReg.take ⟨r0, 0, 0, []⟩).out

end Sys2Proof.Safety
end

