-- ==== Sys2Proof/Certificates/Slice0/Obligations.lean ====
section
/-! DEFINITION. The statements for the provers, from the spec's numbered rules. Where a statement says `t = { s with ... }` it also says the instruction's frame: every field not named keeps its value. -/

open Sys2Proof Sys2Proof.Machine Sys2Proof.Safety

/-! ## FrameCodec: ENC, VALID, DEC -/

/-- R111, R112: ENC on its ports completes in every state; `enc_frame` shows the frame of the table, byte by byte,
and nothing else changes. -/
def Obligations.EncWritesTheFrameTable : Prop :=
  ∀ (S : Snapshot) (P : Byte) (s : State), ∃ F : Frame,
    exec (.enc S P) s = .next { s with results := s.results ++ [.encFrame F] }
    ∧ F[0] = 0x01 ∧ F[1] = P ∧ F[2] = 0x1B ∧ F[3] = 0xE4
    ∧ F[4] = S.digitalIo.extractLsb' 24 8 ∧ F[5] = S.digitalIo.extractLsb' 16 8
    ∧ F[6] = S.digitalIo.extractLsb' 8 8 ∧ F[7] = S.digitalIo.extractLsb' 0 8
    ∧ F[8] = S.analogIo[3].extractLsb' 8 8 ∧ F[9] = S.analogIo[3].extractLsb' 0 8
    ∧ F[10] = S.analogIo[2].extractLsb' 8 8 ∧ F[11] = S.analogIo[2].extractLsb' 0 8
    ∧ F[12] = S.analogIo[1].extractLsb' 8 8 ∧ F[13] = S.analogIo[1].extractLsb' 0 8
    ∧ F[14] = S.analogIo[0].extractLsb' 8 8 ∧ F[15] = S.analogIo[0].extractLsb' 0 8
    ∧ F[16] = S.auxFlag
    ∧ F[17] = S.auxA[0] ∧ F[18] = S.auxA[1] ∧ F[19] = S.auxA[2] ∧ F[20] = S.auxA[3] ∧ F[21] = S.auxA[4]
    ∧ F[22] = S.auxB[0] ∧ F[23] = S.auxB[1] ∧ F[24] = S.auxB[2] ∧ F[25] = S.auxB[3] ∧ F[26] = S.auxB[4]
    ∧ F[27] = 0x04

/-- R113: ENC is total, and injective on the pair of its operands. -/
def Obligations.EncIsTotalAndInjective : Prop :=
  (∀ (S : Snapshot) (P : Byte) (s : State), ∃ t, exec (.enc S P) s = .next t)
  ∧ ∀ (S S' : Snapshot) (P P' : Byte), encFrame S P = encFrame S' P' → S = S' ∧ P = P'

/-- R114: VALID on its ports completes on any 28 bytes; `val_ok` is true exactly when the three tests pass, and
nothing else changes. -/
def Obligations.ValidIsTheThreeTests : Prop :=
  ∀ (B : Frame) (s : State), ∃ ok : Bool,
    exec (.valid B) s = .next { s with results := s.results ++ [.valOk ok] }
    ∧ (ok = true ↔ B[0] = 0x01 ∧ B[2] ^^^ B[3] = 0xFF ∧ B[27] = 0x04)

/-- R116, R117, R119: DEC on its ports completes on any 28 bytes, valid or not; `dec_snapshot` shows the fields, big-endian,
channel `c` from offsets `14-2c` and `15-2c`, and nothing else changes. -/
def Obligations.DecExtractsTheFields : Prop :=
  ∀ (B : Frame) (s : State), ∃ S : Snapshot,
    exec (.dec B) s = .next { s with results := s.results ++ [.decSnapshot S] }
    ∧ S.digitalIo = B[4] ++ B[5] ++ B[6] ++ B[7]
    ∧ S.analogIo[3] = B[8] ++ B[9] ∧ S.analogIo[2] = B[10] ++ B[11]
    ∧ S.analogIo[1] = B[12] ++ B[13] ∧ S.analogIo[0] = B[14] ++ B[15]
    ∧ S.auxFlag = B[16]
    ∧ S.auxA[0] = B[17] ∧ S.auxA[1] = B[18] ∧ S.auxA[2] = B[19] ∧ S.auxA[3] = B[20] ∧ S.auxA[4] = B[21]
    ∧ S.auxB[0] = B[22] ∧ S.auxB[1] = B[23] ∧ S.auxB[2] = B[24] ∧ S.auxB[3] = B[25] ∧ S.auxB[4] = B[26]

/-- The consequence R118 draws: the result of DEC depends on `B[4..26]` and on nothing else. -/
def Obligations.DecDependsOnPayloadOnly : Prop :=
  ∀ (B B' : Frame), (∀ j : Fin 28, 4 ≤ j.val → j.val ≤ 26 → B[j] = B'[j]) →
    ∃ S : Snapshot, ∀ s s' : State,
      exec (.dec B) s = .next { s with results := s.results ++ [.decSnapshot S] }
      ∧ exec (.dec B') s' = .next { s' with results := s'.results ++ [.decSnapshot S] }

/-- R50, R51: the multi-byte fields are big-endian in the frame, `{F[o], F[o+1], ...}`, channel 3 at the lowest offset; DEC reads and
ENC writes by this one mapping. -/
def Obligations.MultiByteFieldsAreBigEndian : Prop :=
  (∀ B : Frame,
    (decFrame B).digitalIo = readBE B 4 4
    ∧ (decFrame B).analogIo[3] = readBE B 8 2 ∧ (decFrame B).analogIo[2] = readBE B 10 2
    ∧ (decFrame B).analogIo[1] = readBE B 12 2 ∧ (decFrame B).analogIo[0] = readBE B 14 2)
  ∧ ∀ (S : Snapshot) (P : Byte),
    readBE (encFrame S P) 4 4 = S.digitalIo
    ∧ readBE (encFrame S P) 8 2 = S.analogIo[3] ∧ readBE (encFrame S P) 10 2 = S.analogIo[2]
    ∧ readBE (encFrame S P) 12 2 = S.analogIo[1] ∧ readBE (encFrame S P) 14 2 = S.analogIo[0]

/-- R120: `DEC(ENC(S, P)) == S`. -/
def Obligations.CodecRoundTrip : Prop :=
  ∀ (S : Snapshot) (P : Byte), decFrame (encFrame S P) = S

/-- What R121 derives: every frame ENC makes is valid, and re-encoding what was decoded gives the frame back exactly when
its four structural bytes are ENC's constants. -/
def Obligations.EncodedFramesAreValid : Prop :=
  (∀ (S : Snapshot) (P : Byte), validFrame (encFrame S P) = true)
  ∧ ∀ B : Frame, encFrame (decFrame B) B[1] = B ↔ B[0] = 0x01 ∧ B[2] = 0x1B ∧ B[3] = 0xE4 ∧ B[27] = 0x04

/-- R122: a change to exactly one of offsets 0, 2, 3, 27 of a valid frame makes it invalid; a change to other offsets
changes nothing; a joint change of offsets 2 and 3 can keep it valid. -/
def Obligations.ValidityGate : Prop :=
  (∀ B B' : Frame, validFrame B = true →
    ((B'[0] ≠ B[0] ∧ B'[2] = B[2] ∧ B'[3] = B[3] ∧ B'[27] = B[27])
      ∨ (B'[0] = B[0] ∧ B'[2] ≠ B[2] ∧ B'[3] = B[3] ∧ B'[27] = B[27])
      ∨ (B'[0] = B[0] ∧ B'[2] = B[2] ∧ B'[3] ≠ B[3] ∧ B'[27] = B[27])
      ∨ (B'[0] = B[0] ∧ B'[2] = B[2] ∧ B'[3] = B[3] ∧ B'[27] ≠ B[27])) →
    validFrame B' = false)
  ∧ (∀ B B' : Frame, B'[0] = B[0] → B'[2] = B[2] → B'[3] = B[3] → B'[27] = B[27] → validFrame B' = validFrame B)
  ∧ ∃ B B' : Frame, validFrame B = true ∧ validFrame B' = true ∧ B'[2] ≠ B[2] ∧ B'[3] ≠ B[3]

/-! ## Accessors: SETD, GETD, SETA -/

/-- R181: SETD completes for every pin; `sd_result` is the Snapshot with bit `16 + pin` of `digital_io` set to `state` when
the pin is at most 15, every other bit and field as before, and nothing else changes. -/
def Obligations.SetdWritesOnePin : Prop :=
  ∀ (S : Snapshot) (pin : Byte) (state : Bool) (s : State), ∃ S' : Snapshot,
    exec (.setd S pin state) s = .next { s with results := s.results ++ [.sdResult S'] }
    ∧ (∀ k : Nat, k < 32 →
        S'.digitalIo.getLsbD k = if pin.toNat ≤ 15 ∧ k = 16 + pin.toNat then state else S.digitalIo.getLsbD k)
    ∧ S'.analogIo = S.analogIo ∧ S'.auxFlag = S.auxFlag ∧ S'.auxA = S.auxA ∧ S'.auxB = S.auxB

/-- R182: GETD completes for every pin; `gd_value` is bit `16 + pin` of `digital_io` when the pin is at most 15, else 0,
and nothing else changes. -/
def Obligations.GetdReadsOnePin : Prop :=
  ∀ (S : Snapshot) (pin : Byte) (s : State), ∃ v : Bool,
    exec (.getd S pin) s = .next { s with results := s.results ++ [.gdValue v] }
    ∧ (pin.toNat ≤ 15 → v = S.digitalIo.getLsbD (16 + pin.toNat))
    ∧ (15 < pin.toNat → v = false)

/-- R183: SETA completes for every channel; `sa_result` is the Snapshot with that channel set when it is at most 3, every
other channel and field as before, and nothing else changes. -/
def Obligations.SetaWritesOneChannel : Prop :=
  ∀ (S : Snapshot) (channel : Byte) (value : BitVec 16) (s : State), ∃ S' : Snapshot,
    exec (.seta S channel value) s = .next { s with results := s.results ++ [.saResult S'] }
    ∧ (∀ c : Fin 4, S'.analogIo[c] = if c.val = channel.toNat then value else S.analogIo[c])
    ∧ S'.digitalIo = S.digitalIo ∧ S'.auxFlag = S.auxFlag ∧ S'.auxA = S.auxA ∧ S'.auxB = S.auxB

/-- R184: the range tests are on the 8 bits as unsigned numbers, equally on `pin[7:4]`, so that every operand a caller
thinks of as negative is out of range; out of range operands do nothing, and GETD answers false. -/
def Obligations.OutOfRangeOperandsDoNothing : Prop :=
  ∀ (S : Snapshot) (n : Byte) (policy : OpenPolicy) (fresh value : BitVec 16) (state : Bool),
    (n.toNat ≤ 15 ↔ n.extractLsb' 4 4 = 0#4)
    ∧ (n.getLsbD 7 = true → 15 < n.toNat ∧ 3 < n.toNat)
    ∧ (15 < n.toNat → setDigital policy fresh S n state = S ∧ getDigital S n = false)
    ∧ (3 < n.toNat → setAnalog S n value = S)

/-- R185: SETD then GETD round-trips, and does not disturb another pin, under either policy for the low half. -/
def Obligations.AccessorRoundTrip : Prop :=
  ∀ (policy : OpenPolicy) (fresh : BitVec 16) (S : Snapshot) (p r : Byte) (v : Bool), p.toNat ≤ 15 → r.toNat ≤ 15 →
    getDigital (setDigital policy fresh S p v) p = v
    ∧ (r ≠ p → getDigital (setDigital policy fresh S p v) r = getDigital S r)

/-- R110 for ENC, VALID and DEC, R38 for SETD, GETD and SETA: the six functions complete in every state, their result depends on the
operands alone, and they touch neither the block's registers nor its neighbours. That SETD's result is one for all states also rests on
LOWHALF_POLICY being `unchanged`, the choice of log 6. -/
def Obligations.FunctionsTouchNothing : Prop :=
  ∀ (S : Snapshot) (B : Frame) (x : Byte) (v : Bool) (value : BitVec 16) (i : Instr),
    (i = .enc S x ∨ i = .valid B ∨ i = .dec B ∨ i = .setd S x v ∨ i = .getd S x ∨ i = .seta S x value) →
    ∃ r : PortResult, ∀ s : State, ∃ t : State,
      exec i s = .next t ∧ t.results = s.results ++ [r] ∧ BlockUntouched s t

/-! ## The ten transitions -/

/-- R145: START with `start` 1 and `BUSY` 0 sets `BUSY`; everything else is unchanged; `busy` becomes 1 and, `NEED` being 28,
`rx_ready` becomes 1. While `BUSY` is 1, `start` does nothing. -/
def Obligations.StartSetsBusy : Prop :=
  (∀ s : State, s.startIn = true → s.busy = false → ∃ t : State,
    exec .start s = .next t ∧ t = { s with busy := true }
    ∧ t.busyOut = true ∧ (s.need = 28 → t.rxReady = true))
  ∧ ∀ (s : State) (offer : Bool) (rest : List Move), s.busy = true →
    step { s with script := .sync true offer :: rest } = step { s with script := .sync false offer :: rest }

/-- R147: WAIT, with `BUSY`, `NEED != 0` and no byte offered, changes nothing; `rx_ready` is 1. -/
def Obligations.WaitChangesNothing : Prop :=
  ∀ s : State, s.busy = true → s.need ≠ 0 → s.offered = none →
    exec .wait s = .next s ∧ (s.rstIn = false → s.rxReady = true)

/-- R148: FILL puts the offered byte into `W[28 - NEED]`, takes it from the transport and decrements `NEED`; every other byte
of the window and every other register keeps its value; `rx_ready` is 1 and falls with the last byte. -/
def Obligations.FillStoresTheByte : Prop :=
  ∀ (s : State) (b : Byte), s.busy = true → s.need ≠ 0 → s.offered = some b → ∃ t : State,
    exec .fill s = .next t
    ∧ (∀ j : Fin 28, t.w[j] = if j.val = 28 - s.need.val then b else s.w[j])
    ∧ t.need.val = s.need.val - 1 ∧ s.rx = b :: t.rx ∧ t.given = s.given ++ [b]
    ∧ t.cur = s.cur ∧ t.busy = s.busy ∧ t.rxsnap = s.rxsnap ∧ t.script = s.script ∧ t.habit = s.habit
    ∧ t.delivered = s.delivered ∧ t.results = s.results ∧ t.draws = s.draws
    ∧ s.rxReady = true ∧ (s.need = 1 → t.rxReady = false)

/-- R149: WRESET, with `BUSY`, `NEED == 0` and `CUR == 28`, asks for a whole new window; nothing else changes; `rx_ready`
becomes 1. -/
def Obligations.WresetAsksForAWindow : Prop :=
  ∀ s : State, s.busy = true → s.need = 0 → s.cur = 28 → ∃ t : State,
    exec .wreset s = .next t ∧ t = { s with need := 28, cur := 0 }
    ∧ (t.rstIn = false → t.rxReady = true)

/-- R150: SKIP, with `BUSY`, `NEED == 0`, `CUR < 28` and `W[CUR] != 0x01`, moves the cursor by one; nothing else changes. -/
def Obligations.SkipAdvances : Prop :=
  ∀ (s : State) (h : s.cur.val < 28), s.busy = true → s.need = 0 → s.w[s.cur.val] ≠ 0x01 → ∃ t : State,
    exec .skip s = .next t ∧ t = { s with cur := t.cur } ∧ t.cur.val = s.cur.val + 1
    ∧ t.busyOut = s.busyOut ∧ t.rxReady = s.rxReady

/-- R151: CSHORT, with a start marker at cursor 25, 26 or 27, compacts to the front, asks for `CUR` bytes and sets the cursor to
0; nothing else changes; `rx_ready` becomes 1. That the tail of the window keeps its bytes is the choice of TAIL_POLICY `unchanged`
(R60, R61, decision D9; log 5). -/
def Obligations.CshortCompacts : Prop :=
  ∀ (s : State) (h : s.cur.val < 28), s.busy = true → s.need = 0 → s.w[s.cur.val] = 0x01 → 28 ≤ s.cur.val + 3 →
    ∃ t : State,
      exec .cshort s = .next t ∧ t = { s with w := t.w, need := s.cur, cur := 0 }
      ∧ (∀ (j : Nat) (hj : s.cur.val + j < 28), t.w[j] = s.w[s.cur.val + j])
      ∧ (∀ j : Fin 28, 28 ≤ s.cur.val + j.val → t.w[j] = s.w[j])
      ∧ (t.rstIn = false → t.rxReady = true)

/-- R152: NOCOMP, with a start marker at a cursor of at most 24 and a pair that is no complement, moves the cursor by one;
nothing else changes. -/
def Obligations.NocompAdvances : Prop :=
  ∀ (s : State) (h : s.cur.val + 3 < 28), s.busy = true → s.need = 0 → s.w[s.cur.val] = 0x01 →
    s.w[s.cur.val + 2] ^^^ s.w[s.cur.val + 3] ≠ 0xFF → ∃ t : State,
      exec .nocomp s = .next t ∧ t = { s with cur := t.cur } ∧ t.cur.val = s.cur.val + 1
      ∧ t.busyOut = s.busyOut ∧ t.rxReady = s.rxReady

/-- R153: CUNAL, with a start marker and a complement pair at a cursor from 1 to 24, has the effect of CSHORT. That the tail of the
window keeps its bytes is the choice of TAIL_POLICY `unchanged` (R60, R61, decision D9; log 5). -/
def Obligations.CunalCompacts : Prop :=
  ∀ (s : State) (h : s.cur.val + 3 < 28), s.busy = true → s.need = 0 → s.w[s.cur.val] = 0x01 →
    s.w[s.cur.val + 2] ^^^ s.w[s.cur.val + 3] = 0xFF → s.cur ≠ 0 → ∃ t : State,
      exec .cunal s = .next t ∧ t = { s with w := t.w, need := s.cur, cur := 0 }
      ∧ (∀ (j : Nat) (hj : s.cur.val + j < 28), t.w[j] = s.w[s.cur.val + j])
      ∧ (∀ j : Fin 28, 28 ≤ s.cur.val + j.val → t.w[j] = s.w[j])
      ∧ (t.rstIn = false → t.rxReady = true)

/-- R154: ENDFAIL, with a start marker and a complement pair at the front and no end marker, sets the cursor to 1; the window is
kept whole and nothing else changes. -/
def Obligations.EndfailAdvances : Prop :=
  ∀ s : State, s.busy = true → s.need = 0 → s.cur = 0 → s.w[0] = 0x01 → s.w[2] ^^^ s.w[3] = 0xFF → s.w[27] ≠ 0x04 →
    ∃ t : State, exec .endfail s = .next t ∧ t = { s with cur := 1 }
      ∧ t.busyOut = s.busyOut ∧ t.rxReady = s.rxReady

/-- R155: ACCEPT, with `CUR == 0` and `VALID(W)`, loads `RXSNAP` with `DEC(W)`, delivers it, sets `NEED` to 28, `CUR` to 0 and
clears `BUSY`; `W` is left as it is and nothing else changes; `busy` and `rx_ready` become 0; `snap_valid` is 1 in the Synchronizer
step that makes this transition and falls after it. -/
def Obligations.AcceptDelivers : Prop :=
  ∀ s : State, s.busy = true → s.need = 0 → s.cur = 0 → s.w[0] = 0x01 → s.w[2] ^^^ s.w[3] = 0xFF → s.w[27] = 0x04 →
    ∃ t : State,
      exec .accept s = .next t
      ∧ t = { s with
              rxsnap := decFrame s.w
              delivered := s.delivered ++ [⟨s.given.length, decFrame s.w⟩]
              need := 28
              cur := 0
              busy := false }
      ∧ t.busyOut = false ∧ t.rxReady = false ∧ t.snapValid = false
      ∧ (s.legal = true → (∃ start offer, s.move = .sync start offer) → s.snapValid = true)

/-! ## Selection -/

/-- R91: the transition that a selector vector picks, by the masks and matches of the table; every vector matches exactly one row, the
idle row being one. -/
def Obligations.SelectionIsExactlyOneRow : Prop :=
  ∀ q : BitVec 10,
    (decodeSel q = none ↔ q &&& 0x300 = 0x000)
    ∧ (decodeSel q = some .start ↔ q &&& 0x300 = 0x200)
    ∧ (decodeSel q = some .wait ↔ q &&& 0x1C0 = 0x180)
    ∧ (decodeSel q = some .fill ↔ q &&& 0x1C0 = 0x1C0)
    ∧ (decodeSel q = some .wreset ↔ q &&& 0x1A0 = 0x120)
    ∧ (decodeSel q = some .skip ↔ q &&& 0x1B0 = 0x100)
    ∧ (decodeSel q = some .cshort ↔ q &&& 0x1B8 = 0x110)
    ∧ (decodeSel q = some .nocomp ↔ q &&& 0x1BC = 0x118)
    ∧ (decodeSel q = some .cunal ↔ q &&& 0x1BE = 0x11C)
    ∧ (decodeSel q = some .endfail ↔ q &&& 0x1BF = 0x11E)
    ∧ (decodeSel q = some .accept ↔ q &&& 0x1BF = 0x11F)
    ∧ (selRows.filter fun r => r.covers q).length + (if q &&& 0x300 = 0x000 then 1 else 0) = 1

/-- R90: the ten bits of the selector vector, from the inputs and the state; a test that reads a window byte is false when
`NEED != 0` or when its byte does not exist. -/
def Obligations.SelectorBitsAreTheTests : Prop :=
  ∀ s : State,
    s.selector.getLsbD 9 = s.startIn
    ∧ s.selector.getLsbD 8 = s.busy
    ∧ (s.selector.getLsbD 7 = true ↔ s.need ≠ 0)
    ∧ s.selector.getLsbD 6 = s.offered.isSome
    ∧ (s.selector.getLsbD 5 = true ↔ s.need = 0 ∧ s.cur = 28)
    ∧ (s.selector.getLsbD 4 = true ↔ s.need = 0 ∧ ∃ h : s.cur.val < 28, s.w[s.cur.val] = 0x01)
    ∧ (s.selector.getLsbD 3 = true ↔ s.cur.val + 3 < 28)
    ∧ (s.selector.getLsbD 2 = true ↔
        s.need = 0 ∧ ∃ h : s.cur.val + 3 < 28, s.w[s.cur.val + 2] ^^^ s.w[s.cur.val + 3] = 0xFF)
    ∧ (s.selector.getLsbD 1 = true ↔ s.cur = 0)
    ∧ (s.selector.getLsbD 0 = true ↔ s.need = 0 ∧ s.w[27] = 0x04)

/-- What R92 derives: the values of the selector vector that cannot occur within the invariants of R29. -/
def Obligations.ImpossibleSelectors : Prop :=
  ∀ s : State, s.legal = true →
    (s.selector.getLsbD 5 = true →
      s.selector.getLsbD 4 = false ∧ s.selector.getLsbD 3 = false ∧ s.selector.getLsbD 1 = false)
    ∧ (s.selector.getLsbD 2 = true → s.selector.getLsbD 3 = true)
    ∧ (s.selector.getLsbD 1 = true → s.selector.getLsbD 3 = true ∧ s.selector.getLsbD 5 = false)
    ∧ (s.selector.getLsbD 7 = true →
      s.selector.getLsbD 1 = true ∧ s.selector.getLsbD 5 = false ∧ s.selector.getLsbD 4 = false
      ∧ s.selector.getLsbD 2 = false ∧ s.selector.getLsbD 0 = false)
    ∧ (s.selector.getLsbD 8 = false → s.selector.getLsbD 7 = true ∧ s.selector.getLsbD 1 = true)

/-- A transition answers a next state exactly when its row of R91 covers the selector vector; where it does not, the model
refuses it by name (log 9). -/
def Obligations.TransitionsNeedTheirRow : Prop :=
  ∀ r ∈ selRows, ∀ s : State,
    (r.covers s.selector = true → ∃ t, exec r.transition s = .next t)
    ∧ (r.covers s.selector = false → ∃ m, exec r.transition s = .refused (.notEnabled m))

/-- What R157 derives: ACCEPT is the transition picked exactly when an invocation runs, `NEED == 0`, `CUR == 0` and `VALID(W)`. -/
def Obligations.AcceptIsFrontAndValid : Prop :=
  ∀ s : State, decodeSel s.selector = some .accept ↔
    s.busy = true ∧ s.need = 0 ∧ s.cur = 0 ∧ validFrame s.w = true

/-! ## The step -/

/-- The step runs the decoded operation: a word on a function's ports that decodes, or the transition that the selector vector
decodes to; then the move has been made (log 2). -/
def Obligations.StepRunsDecodedOperation : Prop :=
  (∀ (s : State) (w : PortWord) (i : Instr),
    s.move = .use w → decode (.port w) = .ok i → i.wellFormed = true →
    step s = match exec i s with
      | .next t => .next { t with script := s.queue.tail }
      | .fault r => .fault r
      | .refused r => .refused r)
  ∧ ∀ (s : State) (start offer : Bool) (i : Instr),
    s.move = .sync start offer → s.legal = true → decode (.sel s.selector) = .ok i → i.wellFormed = true →
    step s = match exec i s with
      | .next t => .next { t with script := s.queue.tail }
      | .fault r => .fault r
      | .refused r => .refused r

/-- What R156 derives: in a Synchronizer step the machine does what the whole step function, written out as nested tests, does;
then the move has been made. That the tail of a compacted window keeps its bytes, which the step function as written out fixes too, is the choice
of TAIL_POLICY `unchanged` (R60, R61, decision D9; log 5). -/
def Obligations.StepIsTheStepFunction : Prop :=
  ∀ (s : State) (start offer : Bool), s.move = .sync start offer → s.legal = true →
    step s = .next { (stepR156 start s.offered s) with script := s.queue.tail }

/-- R230: `rst` may be asserted at any time and leaves the reset state of R40, takes no byte, and leaves the functions' record; while
it is asserted all status outputs are 0. -/
def Obligations.RstResetsFromAnyState : Prop :=
  ∀ s : State, s.move = .rst →
    s.busyOut = false ∧ s.rxReady = false ∧ s.snapValid = false
    ∧ ∃ t : State, step s = .next t
      ∧ t.busy = false ∧ t.need = 28 ∧ t.cur = 0 ∧ t.rx = s.rx ∧ t.results = s.results
      ∧ t.script = s.queue.tail ∧ t.habit = s.habit

/-- R40: the values the spec gives for reset, and the status outputs then. -/
def Obligations.ResetValues : Prop :=
  State.reset.busy = false ∧ State.reset.need = 28 ∧ State.reset.cur = 0
  ∧ State.reset.busyOut = false ∧ State.reset.rxReady = false ∧ State.reset.snapValid = false

/-- R28: while no invocation runs and `start` is 0 the block's state does not change and no byte is taken; `BUSY` is written by
reset (0), START (1) and ACCEPT (0) only, and shown on the `busy` output. -/
def Obligations.BusyRule : Prop :=
  (∀ s : State, s.legal = true → s.busy = false → s.startIn = false → ∀ start offer, s.move = .sync start offer →
    step s = .next { s with script := s.queue.tail })
  ∧ (∀ s t : State, step s = .next t → t.busy ≠ s.busy →
    (s.move = .rst ∧ t.busy = false) ∨ (s.fetch = .op .start ∧ t.busy = true) ∨ (s.fetch = .op .accept ∧ t.busy = false))
  ∧ ∀ s : State, s.move ≠ .rst → s.busyOut = s.busy

/-- What R17 says of the two counters: each step of the Synchronizer or of a function changes `CUR` only by +1 from at most 27, to 1 or to 0,
and `NEED` only by -1 from at least 1, to 28, or to a `CUR` between 1 and 27. -/
def Obligations.CountersStayInStep : Prop :=
  ∀ s t : State, step s = .next t → s.move ≠ .rst →
    (t.cur = s.cur ∨ (s.cur.val ≤ 27 ∧ t.cur.val = s.cur.val + 1) ∨ t.cur.val = 1 ∨ t.cur.val = 0)
    ∧ (t.need = s.need ∨ (1 ≤ s.need.val ∧ t.need.val = s.need.val - 1) ∨ t.need.val = 28
        ∨ (t.need = s.cur ∧ 1 ≤ s.cur.val ∧ s.cur.val ≤ 27))

/-- Within the invariants of R29 no step stops: none faults, and none is refused but for an ENC word that is no ENC word (R200, R204;
the refusals are the model's, log 8, 9, 10). -/
def Obligations.NoStepStops : Prop :=
  ∀ s : State, s.legal = true → (∀ w, s.move = .use w → w.wellFormed = true) → ∃ t, step s = .next t

/-- Outside the invariants of R29 a Synchronizer step is refused by name, as 93 U16 treats such states (log 8). -/
def Obligations.IllegalStatesAreRefused : Prop :=
  ∀ (s : State) (start offer : Bool), s.move = .sync start offer → s.legal = false →
    step s = .refused .outsideInvariants

/-- The handshake of R37: in a step without `rst`, a byte passes exactly when `rx_valid` and `rx_ready` are both 1; it is the transport's next
byte, and it leaves the transport (R15, R59). Where none passes, the transport holds what it held, behind it the bytes that reach it in this
step (log 20). -/
def Obligations.BytesPassOnTheHandshake : Prop :=
  ∀ s t : State, step s = .next t → s.move ≠ .rst →
    (∃ b, s.rxReady = true ∧ s.offered = some b ∧ t.given = s.given ++ [b] ∧ s.rx = b :: t.rx)
    ∨ ((s.rxReady = false ∨ s.offered = none) ∧ t.given = s.given ∧ t.rx = s.rx ++ s.arrived)

/-- `RXSNAP` is written, and a Snapshot delivered, by ACCEPT and by nothing else but reset, in the step in which `snap_valid` is 1, all five
fields at once with `DEC(W)` (R35, R36, R65, R205). -/
def Obligations.OnlyAcceptDelivers : Prop :=
  ∀ s t : State, step s = .next t → s.move ≠ .rst →
    (s.snapValid = true ∧ t.rxsnap = decFrame s.w ∧ t.snapOut = t.rxsnap ∧ t.busy = false
      ∧ t.delivered = s.delivered ++ [⟨s.given.length, decFrame s.w⟩])
    ∨ (s.snapValid = false ∧ t.rxsnap = s.rxsnap ∧ t.delivered = s.delivered)

/-- The inputs do not compete (R145, R206): `start` is not looked at while an invocation runs, and an offered byte is not looked at while the
block is idle or scanning. -/
def Obligations.InputsAreSampledOnlyWhenUsed : Prop :=
  (∀ (s : State) (offer : Bool) (rest : List Move), s.busy = true →
    step { s with script := .sync true offer :: rest } = step { s with script := .sync false offer :: rest })
  ∧ ∀ (s : State) (start : Bool) (rest : List Move), s.busy = false ∨ s.need = 0 →
    step { s with script := .sync start true :: rest } = step { s with script := .sync start false :: rest }

/-! ## Invariants and the laws of the stream -/

/-- At reset the invariants of R29, R158 and R159 hold. -/
def Obligations.ResetMeetsTheInvariants : Prop := SearchInv State.reset

/-- What R29 derives: every step keeps the invariants that tie the control registers. -/
def Obligations.StepKeepsTheControlInvariant : Prop :=
  ∀ s t : State, s.legal = true → step s = .next t → t.legal = true

/-- What R158 derives: every step keeps that the valid part of the window is the most recent `28 - NEED` bytes taken, in order. -/
def Obligations.StepKeepsTheWindowMirror : Prop :=
  ∀ s t : State, WindowInv s → step s = .next t → WindowInv t

/-- The first-match law that R159 derives: every step keeps that every position from the end of the last accepted frame up to `base + CUR` has
failed a test, and that the deliveries so far are the first matches of the stream taken. -/
def Obligations.StepKeepsFirstMatch : Prop :=
  ∀ s t : State, SearchInv s → step s = .next t → SearchInv t

/-- What R24 derives: no step reads a window byte that is not valid. Two states that differ only in such bytes take steps that differ only in such
bytes. -/
def Obligations.StaleBytesAreNeverRead : Prop :=
  ∀ s t : State, AgreeOnValid s t → sameOutcome (step s) (step t)

/-- A bound R162 derives: from a scanning state, Synchronizer steps leave the scan (a byte is needed again) within 29 steps. -/
def Obligations.ScanEndsWithin29Steps : Prop :=
  ∀ s : State, s.legal = true → s.busy = true → s.need = 0 →
    (∀ m ∈ s.script ++ s.habit, ∃ start offer, m = .sync start offer) →
    ∃ k t, k ≤ 29 ∧ Host.Core.run core k s = .next t ∧ t.need ≠ 0 ∧ t.given = s.given

/-- R160, for every behaviour of the surroundings: where the stream is `k` bytes at none of which the three tests pass, then a valid frame, the
first delivery is that frame's Snapshot, when exactly `k + 28` bytes have been taken. -/
def Obligations.FirstDeliveryIsTheFirstFrame : Prop :=
  ∀ (s : State) (junk rest : List Byte) (F : Frame) (d : Delivery) (ds : List Delivery),
    SearchInv s → s.given ++ s.rx = junk ++ F.toList ++ rest → validFrame F = true →
    (∀ o, o < junk.length → matchesAt (s.given ++ s.rx) o = false) →
    s.delivered = d :: ds → d = ⟨junk.length + 28, decFrame F⟩

/-- R160: the embedded frame is found. From reset, with `start` raised once and the stream waiting in the transport, a run comes to the state in
which that frame has been delivered, once, and exactly the junk and the 28 frame bytes have been taken. After the first move no move is listed,
which by the model's choice (log 2) means `start` 0 and the next byte always offered. -/
def Obligations.EmbeddedFrameIsFound : Prop :=
  ∀ (junk rest : List Byte) (F : Frame), validFrame F = true →
    (∀ o, o < junk.length → matchesAt (junk ++ F.toList ++ rest) o = false) →
    ∃ n t, Host.Core.run core n { State.reset with rx := junk ++ F.toList ++ rest, script := [.sync true true] } = .next t
      ∧ t.delivered = [⟨junk.length + 28, decFrame F⟩] ∧ t.rxsnap = decFrame F
      ∧ t.given = junk ++ F.toList ∧ t.rx = rest ∧ t.busy = false

/-- What R164 derives: at every point where a byte is needed, or no invocation runs, a shift register that takes in the same bytes and accepts as soon
as it holds a valid frame of bytes not yet delivered has made the same deliveries, whatever it held at first. -/
def Obligations.ShiftRegisterAgrees : Prop :=
  ∀ (s : State) (r0 : Frame), SearchInv s → s.need ≠ 0 → shiftDeliveries r0 s.given = s.delivered

/-- From reset, with any stream in the transport, any finite list of moves of the surroundings and any moves made over and over after it, but `rst`,
every run that has not stopped has delivered the first matches of what it has taken, and what it has taken is the front of the stream: of what the
transport held, followed by the bytes that reached it along the run (R65, R159, R163; log 20), which are none where no move is an arrival. Where no move is left the model's choice is `start` 0 and the next byte always
offered (log 2). -/
def Obligations.EveryRunDeliversFirstMatches : Prop :=
  ∀ (stream : List Byte) (moves habit : List Move) (n : Nat) (t : State), (∀ m ∈ moves ++ habit, m ≠ .rst) →
    Host.Core.run core n { State.reset with rx := stream, script := moves, habit := habit } = .next t →
    t.given ++ t.rx = stream ++ arrivals n { State.reset with rx := stream, script := moves, habit := habit }
    ∧ ((∀ m ∈ moves ++ habit, m ≠ .arriveAny ∧ ∀ bytes, m ≠ .arrive bytes) →
      arrivals n { State.reset with rx := stream, script := moves, habit := habit } = [])
    ∧ firstMatches t.given 0 t.delivered ∧ SearchInv t

/-- R19, the first kind of infinite run: it takes bytes for ever and never accepts. From reset, with `start` raised once and a peer that sends
over and over some bytes of which none is a start marker, the run never stops and never delivers, and it comes to have taken any number of bytes,
the invocation still running. That a peer sends for ever is a move made over and over (log 20). -/
def Obligations.EndlessRunTakesBytesForEver : Prop :=
  ∀ bytes : List Byte, bytes ≠ [] → (∀ b ∈ bytes, b ≠ 0x01) → ∀ s : State,
    s = { State.reset with script := [.sync true false], habit := [.arrive bytes, .sync false true] } →
    (∀ n, ∃ t, Host.Core.run core n s = .next t ∧ t.delivered = [])
    ∧ ∀ N, ∃ n t, Host.Core.run core n s = .next t ∧ N ≤ t.given.length ∧ t.busy = true

/-- R19 and R203, the second kind: where the stream has stopped while a byte is needed and nobody moves any more, the run is stuck in WAIT: it has a
next state for ever, and it is the same state, `busy` and `rx_ready` at 1. That with script and habit empty the Synchronizer goes on stepping, with
`start` 0 and the next byte offered if there is one, is the model's choice (log 2; log 20 for the habit). -/
def Obligations.StoppedStreamWaitsForEver : Prop :=
  ∀ s : State, s.legal = true → s.busy = true → s.need ≠ 0 → s.rx = [] → s.script = [] → s.habit = [] →
    s.fetch = .op .wait ∧ s.busyOut = true ∧ s.rxReady = true ∧ ∀ n, Host.Core.run core n s = .next s

/-! ## Words -/

/-- Decoding an encoded operation gives it back, every operand at every value (R81, R91, R93). -/
def Obligations.DecodeEncode : Prop :=
  ∀ i : Instr, i.wellFormed = true → decode (encode i) = .ok i

/-- Each word on a function's ports has one meaning: encoding what it decodes to gives the word back (R81, R93). -/
def Obligations.EncodeDecodePortWord : Prop :=
  ∀ (w : PortWord) (i : Instr), decode (.port w) = .ok i → encode i = .port w

/-- The decoder accepts exactly the well-formed words: an ENC word with its 32 fixed bits, any other port word, any selector vector but the idle
row's (R81, R91, R93). That an ENC word without its fixed bits is rejected is the model's choice (log 10). -/
def Obligations.DecoderAcceptsWellFormedWords : Prop :=
  ∀ w : OpWord, (∃ i, decode w = .ok i) ↔ w.wellFormed = true

/-- A few words written out from the spec's encodings decode to the operations they stand for (R81, R91, R93). -/
def Obligations.SampleWordsDecode : Prop :=
  decode (.sel 0b1010001010#10) = .ok .start
  ∧ decode (.sel 0b0110001010#10) = .ok .wait
  ∧ decode (.sel 0b0111001010#10) = .ok .fill
  ∧ decode (.sel 0b0100011111#10) = .ok .accept
  ∧ decode (.sel 0b0010001010#10) = .error .idleSelector
  ∧ decode (.port (.setd 0b000001111#9 Snapshot.zero)) = .ok (.setd Snapshot.zero 7 true)
  ∧ decode (.port (.seta 0x03FFAA#24 Snapshot.zero)) = .ok (.seta Snapshot.zero 3 0xFFAA)
  ∧ decode (.port (.enc #v[0b00000001#8, 0b01000010, 0b00011011, 0b11100100, 0x80, 0x00, 0x00, 0x01,
      0, 0, 0, 0, 0, 0, 0, 0, 0, 0, 0, 0, 0, 0, 0, 0, 0, 0, 0xB4, 0b00000100]))
    = .ok (.enc { Snapshot.zero with digitalIo := 0x80000001, auxB := #v[0, 0, 0, 0, 0xB4] } 0x42)
end

