-- ==== Sys2Proof/Laws/State.lean ====
section
/-! SUPPORT. One lemma per field per named update of the state, so that no later proof unfolds a record update. -/

namespace Sys2Proof.Machine

variable (s : State)

@[simp] theorem State.popMove_w : (s.popMove).w = s.w := rfl
@[simp] theorem State.popMove_cur : (s.popMove).cur = s.cur := rfl
@[simp] theorem State.popMove_need : (s.popMove).need = s.need := rfl
@[simp] theorem State.popMove_busy : (s.popMove).busy = s.busy := rfl
@[simp] theorem State.popMove_rxsnap : (s.popMove).rxsnap = s.rxsnap := rfl
@[simp] theorem State.popMove_rx : (s.popMove).rx = s.rx := rfl
@[simp] theorem State.popMove_script : (s.popMove).script = s.queue.tail := rfl
@[simp] theorem State.popMove_habit : (s.popMove).habit = s.habit := rfl
@[simp] theorem State.popMove_given : (s.popMove).given = s.given := rfl
@[simp] theorem State.popMove_delivered : (s.popMove).delivered = s.delivered := rfl
@[simp] theorem State.popMove_results : (s.popMove).results = s.results := rfl
@[simp] theorem State.popMove_draws : (s.popMove).draws = s.draws := rfl

@[simp] theorem State.setBusy_w (b : Bool) : (s.setBusy b).w = s.w := rfl
@[simp] theorem State.setBusy_cur (b : Bool) : (s.setBusy b).cur = s.cur := rfl
@[simp] theorem State.setBusy_need (b : Bool) : (s.setBusy b).need = s.need := rfl
@[simp] theorem State.setBusy_busy (b : Bool) : (s.setBusy b).busy = b := rfl
@[simp] theorem State.setBusy_rxsnap (b : Bool) : (s.setBusy b).rxsnap = s.rxsnap := rfl
@[simp] theorem State.setBusy_rx (b : Bool) : (s.setBusy b).rx = s.rx := rfl
@[simp] theorem State.setBusy_script (b : Bool) : (s.setBusy b).script = s.script := rfl
@[simp] theorem State.setBusy_habit (b : Bool) : (s.setBusy b).habit = s.habit := rfl
@[simp] theorem State.setBusy_queue (b : Bool) : (s.setBusy b).queue = s.queue := rfl
@[simp] theorem State.setBusy_given (b : Bool) : (s.setBusy b).given = s.given := rfl
@[simp] theorem State.setBusy_delivered (b : Bool) : (s.setBusy b).delivered = s.delivered := rfl
@[simp] theorem State.setBusy_results (b : Bool) : (s.setBusy b).results = s.results := rfl
@[simp] theorem State.setBusy_draws (b : Bool) : (s.setBusy b).draws = s.draws := rfl

@[simp] theorem State.setCur_w (c : Fin 29) : (s.setCur c).w = s.w := rfl
@[simp] theorem State.setCur_cur (c : Fin 29) : (s.setCur c).cur = c := rfl
@[simp] theorem State.setCur_need (c : Fin 29) : (s.setCur c).need = s.need := rfl
@[simp] theorem State.setCur_busy (c : Fin 29) : (s.setCur c).busy = s.busy := rfl
@[simp] theorem State.setCur_rxsnap (c : Fin 29) : (s.setCur c).rxsnap = s.rxsnap := rfl
@[simp] theorem State.setCur_rx (c : Fin 29) : (s.setCur c).rx = s.rx := rfl
@[simp] theorem State.setCur_script (c : Fin 29) : (s.setCur c).script = s.script := rfl
@[simp] theorem State.setCur_habit (c : Fin 29) : (s.setCur c).habit = s.habit := rfl
@[simp] theorem State.setCur_queue (c : Fin 29) : (s.setCur c).queue = s.queue := rfl
@[simp] theorem State.setCur_given (c : Fin 29) : (s.setCur c).given = s.given := rfl
@[simp] theorem State.setCur_delivered (c : Fin 29) : (s.setCur c).delivered = s.delivered := rfl
@[simp] theorem State.setCur_results (c : Fin 29) : (s.setCur c).results = s.results := rfl
@[simp] theorem State.setCur_draws (c : Fin 29) : (s.setCur c).draws = s.draws := rfl

@[simp] theorem State.refill_w : (s.refill).w = s.w := rfl
@[simp] theorem State.refill_cur : (s.refill).cur = 0 := rfl
@[simp] theorem State.refill_need : (s.refill).need = 28 := rfl
@[simp] theorem State.refill_busy : (s.refill).busy = s.busy := rfl
@[simp] theorem State.refill_rxsnap : (s.refill).rxsnap = s.rxsnap := rfl
@[simp] theorem State.refill_rx : (s.refill).rx = s.rx := rfl
@[simp] theorem State.refill_script : (s.refill).script = s.script := rfl
@[simp] theorem State.refill_habit : (s.refill).habit = s.habit := rfl
@[simp] theorem State.refill_queue : (s.refill).queue = s.queue := rfl
@[simp] theorem State.refill_given : (s.refill).given = s.given := rfl
@[simp] theorem State.refill_delivered : (s.refill).delivered = s.delivered := rfl
@[simp] theorem State.refill_results : (s.refill).results = s.results := rfl
@[simp] theorem State.refill_draws : (s.refill).draws = s.draws := rfl

@[simp] theorem State.takeByte_w (b : Byte) : (s.takeByte b).w = s.w.setIfInBounds (28 - s.need.val) b := rfl
@[simp] theorem State.takeByte_cur (b : Byte) : (s.takeByte b).cur = s.cur := rfl
@[simp] theorem State.takeByte_need (b : Byte) : (s.takeByte b).need = needPred s.need := rfl
@[simp] theorem State.takeByte_busy (b : Byte) : (s.takeByte b).busy = s.busy := rfl
@[simp] theorem State.takeByte_rxsnap (b : Byte) : (s.takeByte b).rxsnap = s.rxsnap := rfl
@[simp] theorem State.takeByte_rx (b : Byte) : (s.takeByte b).rx = s.rx.tail := rfl
@[simp] theorem State.takeByte_script (b : Byte) : (s.takeByte b).script = s.script := rfl
@[simp] theorem State.takeByte_habit (b : Byte) : (s.takeByte b).habit = s.habit := rfl
@[simp] theorem State.takeByte_queue (b : Byte) : (s.takeByte b).queue = s.queue := rfl
@[simp] theorem State.takeByte_given (b : Byte) : (s.takeByte b).given = s.given ++ [b] := rfl
@[simp] theorem State.takeByte_delivered (b : Byte) : (s.takeByte b).delivered = s.delivered := rfl
@[simp] theorem State.takeByte_results (b : Byte) : (s.takeByte b).results = s.results := rfl
@[simp] theorem State.takeByte_draws (b : Byte) : (s.takeByte b).draws = s.draws := rfl

@[simp] theorem State.compactCursor_w : (s.compactCursor).w = compact Config.tailPolicy (Config.freeWindow s.draws) s.cur.val s.w := by unfold State.compactCursor; rfl
@[simp] theorem State.compactCursor_cur : (s.compactCursor).cur = 0 := by unfold State.compactCursor; rfl
@[simp] theorem State.compactCursor_need : (s.compactCursor).need = s.cur := by unfold State.compactCursor; rfl
@[simp] theorem State.compactCursor_busy : (s.compactCursor).busy = s.busy := by unfold State.compactCursor; rfl
@[simp] theorem State.compactCursor_rxsnap : (s.compactCursor).rxsnap = s.rxsnap := by unfold State.compactCursor; rfl
@[simp] theorem State.compactCursor_rx : (s.compactCursor).rx = s.rx := by unfold State.compactCursor; rfl
@[simp] theorem State.compactCursor_script : (s.compactCursor).script = s.script := by unfold State.compactCursor; rfl
@[simp] theorem State.compactCursor_habit : (s.compactCursor).habit = s.habit := by unfold State.compactCursor; rfl
@[simp] theorem State.compactCursor_queue : (s.compactCursor).queue = s.queue := by simp [State.queue]
@[simp] theorem State.compactCursor_given : (s.compactCursor).given = s.given := by unfold State.compactCursor; rfl
@[simp] theorem State.compactCursor_delivered : (s.compactCursor).delivered = s.delivered := by unfold State.compactCursor; rfl
@[simp] theorem State.compactCursor_results : (s.compactCursor).results = s.results := by unfold State.compactCursor; rfl
@[simp] theorem State.compactCursor_draws : (s.compactCursor).draws = s.draws + policyDraws Config.tailPolicy := by unfold State.compactCursor; rfl

@[simp] theorem State.deliver_w (x : Snapshot) : (s.deliver x).w = s.w := rfl
@[simp] theorem State.deliver_cur (x : Snapshot) : (s.deliver x).cur = s.cur := rfl
@[simp] theorem State.deliver_need (x : Snapshot) : (s.deliver x).need = s.need := rfl
@[simp] theorem State.deliver_busy (x : Snapshot) : (s.deliver x).busy = s.busy := rfl
@[simp] theorem State.deliver_rxsnap (x : Snapshot) : (s.deliver x).rxsnap = s.rxsnap := rfl
@[simp] theorem State.deliver_rx (x : Snapshot) : (s.deliver x).rx = s.rx := rfl
@[simp] theorem State.deliver_script (x : Snapshot) : (s.deliver x).script = s.script := rfl
@[simp] theorem State.deliver_habit (x : Snapshot) : (s.deliver x).habit = s.habit := rfl
@[simp] theorem State.deliver_queue (x : Snapshot) : (s.deliver x).queue = s.queue := rfl
@[simp] theorem State.deliver_given (x : Snapshot) : (s.deliver x).given = s.given := rfl
@[simp] theorem State.deliver_delivered (x : Snapshot) : (s.deliver x).delivered = s.delivered ++ [⟨s.given.length, x⟩] := rfl
@[simp] theorem State.deliver_results (x : Snapshot) : (s.deliver x).results = s.results := rfl
@[simp] theorem State.deliver_draws (x : Snapshot) : (s.deliver x).draws = s.draws := rfl

@[simp] theorem State.acceptFrame_w (x : Snapshot) : (s.acceptFrame x).w = s.w := rfl
@[simp] theorem State.acceptFrame_cur (x : Snapshot) : (s.acceptFrame x).cur = 0 := rfl
@[simp] theorem State.acceptFrame_need (x : Snapshot) : (s.acceptFrame x).need = 28 := rfl
@[simp] theorem State.acceptFrame_busy (x : Snapshot) : (s.acceptFrame x).busy = false := rfl
@[simp] theorem State.acceptFrame_rxsnap (x : Snapshot) : (s.acceptFrame x).rxsnap = x := rfl
@[simp] theorem State.acceptFrame_rx (x : Snapshot) : (s.acceptFrame x).rx = s.rx := rfl
@[simp] theorem State.acceptFrame_script (x : Snapshot) : (s.acceptFrame x).script = s.script := rfl
@[simp] theorem State.acceptFrame_habit (x : Snapshot) : (s.acceptFrame x).habit = s.habit := rfl
@[simp] theorem State.acceptFrame_queue (x : Snapshot) : (s.acceptFrame x).queue = s.queue := rfl
@[simp] theorem State.acceptFrame_given (x : Snapshot) : (s.acceptFrame x).given = s.given := rfl
@[simp] theorem State.acceptFrame_delivered (x : Snapshot) : (s.acceptFrame x).delivered = s.delivered ++ [⟨s.given.length, x⟩] := rfl
@[simp] theorem State.acceptFrame_results (x : Snapshot) : (s.acceptFrame x).results = s.results := rfl
@[simp] theorem State.acceptFrame_draws (x : Snapshot) : (s.acceptFrame x).draws = s.draws := rfl

@[simp] theorem State.pushResult_w (r : PortResult) : (s.pushResult r).w = s.w := rfl
@[simp] theorem State.pushResult_cur (r : PortResult) : (s.pushResult r).cur = s.cur := rfl
@[simp] theorem State.pushResult_need (r : PortResult) : (s.pushResult r).need = s.need := rfl
@[simp] theorem State.pushResult_busy (r : PortResult) : (s.pushResult r).busy = s.busy := rfl
@[simp] theorem State.pushResult_rxsnap (r : PortResult) : (s.pushResult r).rxsnap = s.rxsnap := rfl
@[simp] theorem State.pushResult_rx (r : PortResult) : (s.pushResult r).rx = s.rx := rfl
@[simp] theorem State.pushResult_script (r : PortResult) : (s.pushResult r).script = s.script := rfl
@[simp] theorem State.pushResult_habit (r : PortResult) : (s.pushResult r).habit = s.habit := rfl
@[simp] theorem State.pushResult_queue (r : PortResult) : (s.pushResult r).queue = s.queue := rfl
@[simp] theorem State.pushResult_given (r : PortResult) : (s.pushResult r).given = s.given := rfl
@[simp] theorem State.pushResult_delivered (r : PortResult) : (s.pushResult r).delivered = s.delivered := rfl
@[simp] theorem State.pushResult_results (r : PortResult) : (s.pushResult r).results = s.results ++ [r] := rfl
@[simp] theorem State.pushResult_draws (r : PortResult) : (s.pushResult r).draws = s.draws := rfl

@[simp] theorem State.resetBlock_w : (s.resetBlock).w = Config.freeWindow s.draws := by unfold State.resetBlock; rfl
@[simp] theorem State.resetBlock_cur : (s.resetBlock).cur = 0 := by unfold State.resetBlock; rfl
@[simp] theorem State.resetBlock_need : (s.resetBlock).need = 28 := by unfold State.resetBlock; rfl
@[simp] theorem State.resetBlock_busy : (s.resetBlock).busy = false := by unfold State.resetBlock; rfl
@[simp] theorem State.resetBlock_rxsnap : (s.resetBlock).rxsnap = Config.freeSnapshot s.draws := by unfold State.resetBlock; rfl
@[simp] theorem State.resetBlock_rx : (s.resetBlock).rx = s.rx := by unfold State.resetBlock; rfl
@[simp] theorem State.resetBlock_script : (s.resetBlock).script = s.script := by unfold State.resetBlock; rfl
@[simp] theorem State.resetBlock_habit : (s.resetBlock).habit = s.habit := by unfold State.resetBlock; rfl
@[simp] theorem State.resetBlock_queue : (s.resetBlock).queue = s.queue := by simp [State.queue]
@[simp] theorem State.resetBlock_given : (s.resetBlock).given = [] := by unfold State.resetBlock; rfl
@[simp] theorem State.resetBlock_delivered : (s.resetBlock).delivered = [] := by unfold State.resetBlock; rfl
@[simp] theorem State.resetBlock_results : (s.resetBlock).results = s.results := by unfold State.resetBlock; rfl
@[simp] theorem State.resetBlock_draws : (s.resetBlock).draws = s.draws + 1 := by unfold State.resetBlock; rfl

@[simp] theorem State.drawLowHalf_w : (s.drawLowHalf).w = s.w := rfl
@[simp] theorem State.drawLowHalf_cur : (s.drawLowHalf).cur = s.cur := rfl
@[simp] theorem State.drawLowHalf_need : (s.drawLowHalf).need = s.need := rfl
@[simp] theorem State.drawLowHalf_busy : (s.drawLowHalf).busy = s.busy := rfl
@[simp] theorem State.drawLowHalf_rxsnap : (s.drawLowHalf).rxsnap = s.rxsnap := rfl
@[simp] theorem State.drawLowHalf_rx : (s.drawLowHalf).rx = s.rx := rfl
@[simp] theorem State.drawLowHalf_script : (s.drawLowHalf).script = s.script := rfl
@[simp] theorem State.drawLowHalf_habit : (s.drawLowHalf).habit = s.habit := rfl
@[simp] theorem State.drawLowHalf_queue : (s.drawLowHalf).queue = s.queue := rfl
@[simp] theorem State.drawLowHalf_given : (s.drawLowHalf).given = s.given := rfl
@[simp] theorem State.drawLowHalf_delivered : (s.drawLowHalf).delivered = s.delivered := rfl
@[simp] theorem State.drawLowHalf_results : (s.drawLowHalf).results = s.results := rfl
@[simp] theorem State.drawLowHalf_draws : (s.drawLowHalf).draws = s.draws + policyDraws Config.lowHalfPolicy := rfl

@[simp] theorem State.receive_w : (s.receive).w = s.w := rfl
@[simp] theorem State.receive_cur : (s.receive).cur = s.cur := rfl
@[simp] theorem State.receive_need : (s.receive).need = s.need := rfl
@[simp] theorem State.receive_busy : (s.receive).busy = s.busy := rfl
@[simp] theorem State.receive_rxsnap : (s.receive).rxsnap = s.rxsnap := rfl
@[simp] theorem State.receive_rx : (s.receive).rx = s.rx ++ s.arrived := rfl
@[simp] theorem State.receive_script : (s.receive).script = s.script := rfl
@[simp] theorem State.receive_habit : (s.receive).habit = s.habit := rfl
@[simp] theorem State.receive_queue : (s.receive).queue = s.queue := rfl
@[simp] theorem State.receive_given : (s.receive).given = s.given := rfl
@[simp] theorem State.receive_delivered : (s.receive).delivered = s.delivered := rfl
@[simp] theorem State.receive_results : (s.receive).results = s.results := rfl
@[simp] theorem State.receive_draws : (s.receive).draws = s.draws + 1 := rfl

end Sys2Proof.Machine
end

