-- ==== Sys2Proof/Laws/Ops.lean ====
section
/-! SUPPORT. For each shared operation one lemma that says everything it can do: the inputs of a step, the counters, the compaction, firing a transition, ending a step. -/

namespace Sys2Proof.Machine

/-! ## Inputs -/

theorem State.queue_nil {s : State} (h : s.script = []) : s.queue = s.habit := by
  simp [State.queue, h]

theorem State.queue_cons {s : State} {m : Move} {l : List Move} (h : s.script = m :: l) : s.queue = m :: l := by
  simp [State.queue, h]

/-- Every move that comes is one of the script or of the habit. -/
theorem State.mem_queue {s : State} {m : Move} (h : m ∈ s.queue) : m ∈ s.script ∨ m ∈ s.habit := by
  cases hs : s.script with
  | nil => rw [State.queue_nil hs] at h; exact .inr h
  | cons x l => rw [State.queue_cons hs] at h; exact .inl h

/-- The coming move is the first of the queue, or the default where there is none. -/
theorem State.move_cases (s : State) : (s.queue = [] ∧ s.move = .sync false true) ∨ s.move ∈ s.queue := by
  unfold State.move
  cases h : s.queue with
  | nil => exact .inl ⟨rfl, rfl⟩
  | cons m l => exact .inr (by simp)

theorem State.move_nil {s : State} (h : s.script = []) (hh : s.habit = []) : s.move = .sync false true := by
  simp [State.move, State.queue_nil h, hh]

theorem State.move_cons {s : State} {m : Move} {l : List Move} (h : s.script = m :: l) : s.move = m := by
  simp [State.move, State.queue_cons h]

/-! Bytes arrive only in a step that is an arrival. -/

theorem State.arrived_sync {s : State} {a o : Bool} (h : s.move = .sync a o) : s.arrived = [] := by
  simp [State.arrived, h]

theorem State.arrived_use {s : State} {w : PortWord} (h : s.move = .use w) : s.arrived = [] := by
  simp [State.arrived, h]

/-- A byte is offered only in a Synchronizer step in which the transport offers, and it is its next byte. -/
theorem State.offered_eq_some {s : State} {b : Byte} (h : s.offered = some b) :
    ∃ start l, s.move = .sync start true ∧ s.rx = b :: l := by
  unfold State.offered at h
  split at h
  · rename_i start hm
    obtain ⟨l, hl⟩ := List.head?_eq_some_iff.mp h
    exact ⟨start, l, hm, hl⟩
  all_goals cases h

/-! ## Counters -/

@[simp] theorem cursorNext_val {c : Fin 29} (h : c.val < 28) : (cursorNext c).val = c.val + 1 := by
  simp [cursorNext]; omega

@[simp] theorem needPred_val (n : Fin 29) : (needPred n).val = n.val - 1 := rfl

/-! ## The open parameters have the spec's defaults -/

@[simp] theorem tailPolicy_eq : Config.tailPolicy = .unchanged := rfl

@[simp] theorem lowHalfPolicy_eq : Config.lowHalfPolicy = .unchanged := rfl

@[simp] theorem policyDraws_unchanged : policyDraws .unchanged = 0 := rfl

@[simp] theorem lowHalf_unchanged (fresh : BitVec 16) (d : BitVec 32) : lowHalf .unchanged fresh d = d := rfl

/-! ## Compaction -/

/-- A compaction moves what lies from its cursor on, whatever the policy. -/
theorem compact_moved (p : OpenPolicy) (fresh w : Frame) {i j : Nat} (h : i + j < 28) :
    (compact p fresh i w)[j] = w[i + j] := by
  simp [compact, h]

/-- The tail keeps its bytes under the policy `unchanged`. -/
theorem compact_tail (fresh w : Frame) {i j : Nat} (hj : j < 28) (h : 28 ≤ i + j) :
    (compact .unchanged fresh i w)[j] = w[j] := by
  simp [compact, Nat.not_lt.mpr h]

/-! ## Firing and ending -/

/-- Firing answers a next state exactly when the transition is enabled, and it is the one given. -/
theorem fire_eq_next {m : String} {i : Instr} {s t u : State} :
    fire m i s t = .next u ↔ s.enabled i = true ∧ u = t := by
  unfold fire
  split
  · rename_i h; simp [h, eq_comm]
  · rename_i h; simp [h]

theorem fire_of_enabled {m : String} {i : Instr} {s t : State} (h : s.enabled i = true) :
    fire m i s t = .next t := by
  simp [fire, h]

theorem fire_of_not_enabled {m : String} {i : Instr} {s t : State} (h : s.enabled i = false) :
    fire m i s t = .refused (.notEnabled m) := by
  simp [fire, h]

@[simp] theorem finish_next (t : State) : finish (.next t) = .next t.popMove := rfl

@[simp] theorem finish_refused (r : Refusal) : finish (.refused r) = .refused r := rfl

theorem finish_eq_next {o : Host.Outcome State Fault Refusal} {t : State} :
    finish o = .next t ↔ ∃ u, o = .next u ∧ t = u.popMove := by
  cases o <;> simp [finish, eq_comm]

end Sys2Proof.Machine
end

