-- ==== Sys2Proof/Laws/Selector.lean ====
section
/-! SUPPORT. The selection table read as the decision tree of R91, and when each transition is enabled. -/

namespace Sys2Proof.Machine

/-- The table of R91 read top to bottom: each row tests one more bit than the row above it. -/
theorem decodeSel_selectorWord (go busy nz rxv atEnd soh room cmp front eot : Bool) :
    decodeSel (selectorWord go busy nz rxv atEnd soh room cmp front eot) =
      if busy = false then if go then some .start else none
      else if nz then if rxv then some .fill else some .wait
      else if atEnd then some .wreset
      else if soh = false then some .skip
      else if room = false then some .cshort
      else if cmp = false then some .nocomp
      else if front = false then some .cunal
      else if eot = false then some .endfail
      else some .accept := by
  revert go busy nz rxv atEnd soh room cmp front eot
  decide

/-- The transition that a state's selector vector picks. -/
theorem decodeSel_selector (s : State) :
    decodeSel s.selector =
      if s.busy = false then if s.startIn then some .start else none
      else if s.need ≠ 0 then if s.offered.isSome then some .fill else some .wait
      else if s.cur = 28 then some .wreset
      else if s.flagSoh = false then some .skip
      else if s.flagRoom = false then some .cshort
      else if s.flagCmp = false then some .nocomp
      else if s.cur ≠ 0 then some .cunal
      else if s.flagEot = false then some .endfail
      else some .accept := by
  unfold State.selector
  rw [decodeSel_selectorWord]
  by_cases hb : s.busy = false
  · cases hg : s.startIn <;> simp [State.flagBusy, State.flagGo, hb, hg]
  by_cases hn : s.need = 0
  · by_cases hc : s.cur = 28
    · simp [State.flagBusy, State.flagNz, State.flagEnd, hb, hn, hc]
    · simp [State.flagBusy, State.flagNz, State.flagEnd, State.flagFront, hb, hn, hc]
  · cases hr : s.offered.isSome <;> simp [State.flagBusy, State.flagNz, State.flagRxv, hb, hn, hr]

theorem State.enabled_iff {s : State} {i : Instr} : s.enabled i = true ↔ decodeSel s.selector = some i := by
  simp [State.enabled]

/-! ## The three tests on window bytes -/

theorem State.winIs_iff {s : State} {j : Nat} {b : Byte} (h : j < 28) : s.winIs j b = true ↔ s.w[j] = b := by
  simp [State.winIs, h]

theorem State.flagSoh_iff {s : State} (hn : s.need = 0) (h : s.cur.val < 28) :
    s.flagSoh = true ↔ s.w[s.cur.val] = 0x01 := by
  simp [State.flagSoh, hn, State.winIs_iff h]

theorem State.flagRoom_iff {s : State} : s.flagRoom = true ↔ s.cur.val + 3 < 28 := by
  simp [State.flagRoom]

theorem State.flagCmp_iff {s : State} (hn : s.need = 0) (h : s.cur.val + 3 < 28) :
    s.flagCmp = true ↔ s.w[s.cur.val + 2] ^^^ s.w[s.cur.val + 3] = 0xFF := by
  have h2 : s.cur.val + 2 < 28 := by omega
  simp [State.flagCmp, State.winPair, hn, h, h2]

theorem State.flagEot_iff {s : State} (hn : s.need = 0) : s.flagEot = true ↔ s.w[27] = 0x04 := by
  simp [State.flagEot, hn, State.winIs_iff]

end Sys2Proof.Machine
end

