-- ==== Sys2Proof/Laws/Step.lean ====
section
/-! SUPPORT. Once and for all what a step can do: the functions on their ports, the eleven cases of a Synchronizer step in terms of the registers, and the three kinds of move. -/

namespace Sys2Proof.Machine

@[simp] theorem State.drawLowHalf_eq (s : State) : s.drawLowHalf = s := rfl

/-- What a function on its ports does: it completes, and all that changes is the record of results. -/
theorem exec_of_decodePort {w : PortWord} {i : Instr} (h : decodePort w = .ok i) (s : State) :
    ∃ r, exec i s = .next (s.pushResult r) := by
  cases w with
  | enc f =>
    simp only [decodePort] at h
    split at h <;> (try cases h)
    split at h <;> (try cases h)
    split at h <;> (try cases h)
    split at h <;> cases h
    exact ⟨_, rfl⟩
  | valid f => cases h; exact ⟨_, rfl⟩
  | dec f => cases h; exact ⟨_, rfl⟩
  | setd o x => cases h; exact ⟨_, rfl⟩
  | getd o x => cases h; exact ⟨_, rfl⟩
  | seta o x => cases h; exact ⟨_, rfl⟩

/-- The cases of a Synchronizer step, each with the condition on the registers and inputs under which it
happens and the state it leaves before the move is popped. -/
inductive SyncStep (s : State) : State → Prop
  | idle (hb : s.busy = false) (hg : s.startIn = false) : SyncStep s s
  | start (hb : s.busy = false) (hg : s.startIn = true) (hf : s.fetch = .op .start) : SyncStep s (s.setBusy true)
  | wait (hb : s.busy = true) (hn : s.need ≠ 0) (ho : s.offered = none) : SyncStep s s
  | fill (b : Byte) (hb : s.busy = true) (hn : s.need ≠ 0) (ho : s.offered = some b) : SyncStep s (s.takeByte b)
  | wreset (hb : s.busy = true) (hn : s.need = 0) (hc : s.cur = 28) : SyncStep s s.refill
  | skip (hb : s.busy = true) (hn : s.need = 0) (hc : s.cur.val < 28) (h1 : s.w[s.cur.val] ≠ 0x01) :
      SyncStep s (s.setCur (cursorNext s.cur))
  | cshort (hb : s.busy = true) (hn : s.need = 0) (hc : s.cur.val < 28) (h1 : s.w[s.cur.val] = 0x01)
      (hr : 28 ≤ s.cur.val + 3) : SyncStep s s.compactCursor
  | nocomp (hb : s.busy = true) (hn : s.need = 0) (hr : s.cur.val + 3 < 28) (h1 : s.w[s.cur.val] = 0x01)
      (h2 : s.w[s.cur.val + 2] ^^^ s.w[s.cur.val + 3] ≠ 0xFF) : SyncStep s (s.setCur (cursorNext s.cur))
  | cunal (hb : s.busy = true) (hn : s.need = 0) (hr : s.cur.val + 3 < 28) (h1 : s.w[s.cur.val] = 0x01)
      (h2 : s.w[s.cur.val + 2] ^^^ s.w[s.cur.val + 3] = 0xFF) (h0 : s.cur ≠ 0) : SyncStep s s.compactCursor
  | endfail (hb : s.busy = true) (hn : s.need = 0) (h0 : s.cur = 0) (h1 : s.w[0] = 0x01)
      (h2 : s.w[2] ^^^ s.w[3] = 0xFF) (h3 : s.w[27] ≠ 0x04) : SyncStep s (s.setCur 1)
  | accept (hb : s.busy = true) (hn : s.need = 0) (h0 : s.cur = 0) (h1 : s.w[0] = 0x01)
      (h2 : s.w[2] ^^^ s.w[3] = 0xFF) (h3 : s.w[27] = 0x04) (hf : s.fetch = .op .accept) :
      SyncStep s (s.acceptFrame (decFrame s.w))

/-- A Synchronizer step does not touch the moves that come after it. -/
theorem SyncStep.queue {s u : State} (h : SyncStep s u) : u.queue = s.queue := by
  cases h <;> simp

/-- Nor does it lose a byte of the stream: what is taken leaves the front of what the transport holds. -/
theorem SyncStep.stream {s u : State} (h : SyncStep s u) : u.given ++ u.rx = s.given ++ s.rx := by
  cases h with
  | fill b hb hn ho =>
    obtain ⟨_, _, _, hx⟩ := State.offered_eq_some ho
    simp [hx]
  | _ => simp

theorem State.fetch_sync {s : State} {a o : Bool} (hm : s.move = .sync a o) (hl : s.legal = true) :
    s.fetch = match decodeSel s.selector with
      | some i => .op i
      | none => .idle := by
  cases h : decodeSel s.selector <;> simp [State.fetch, hm, hl, h]

theorem step_of_op {s : State} {i : Instr} (h : s.fetch = .op i) : step s = finish (exec i s) := by
  simp [step, h]

/-- A Synchronizer step within the invariants of R29 has a next state, and it is one of the eleven cases. -/
theorem step_sync {s : State} {a o : Bool} (hm : s.move = .sync a o) (hl : s.legal = true) :
    ∃ u, SyncStep s u ∧ step s = .next u.popMove := by
  have hf := State.fetch_sync hm hl
  have hd := decodeSel_selector s
  -- one enabled transition: fetched, executed, fired
  have fired : ∀ {i : Instr} {m : String} {t : State}, decodeSel s.selector = some i →
      exec i s = fire m i s t → step s = .next t.popMove := by
    intro i m t hi hx
    rw [hi] at hf
    rw [step_of_op hf, hx, fire_of_enabled (State.enabled_iff.mpr hi), finish_next]
  by_cases hb : s.busy = false
  · by_cases hg : s.startIn = true
    · have hi : decodeSel s.selector = some .start := by rw [hd]; simp [hb, hg]
      exact ⟨_, .start hb hg (by rw [hf, hi]), fired hi rfl⟩
    · have hi : decodeSel s.selector = none := by rw [hd]; simp [hb, hg]
      rw [hi] at hf
      exact ⟨s, .idle hb (by simpa using hg), by simp [step, hf]⟩
  have hb' : s.busy = true := by simpa using hb
  by_cases hn : s.need = 0
  · by_cases hc : s.cur = 28
    · have hi : decodeSel s.selector = some .wreset := by rw [hd]; simp [hb', hn, hc]
      exact ⟨_, .wreset hb' hn hc, fired hi rfl⟩
    have hlt : s.cur.val < 28 := by
      have := s.cur.isLt
      have h' : s.cur.val ≠ 28 := fun h => hc (Fin.ext h)
      omega
    by_cases h1 : s.w[s.cur.val] = 0x01
    · have hs := (State.flagSoh_iff hn hlt).mpr h1
      by_cases hr : s.cur.val + 3 < 28
      · have hrm := State.flagRoom_iff.mpr hr
        by_cases h2 : s.w[s.cur.val + 2] ^^^ s.w[s.cur.val + 3] = 0xFF
        · have hcm := (State.flagCmp_iff hn hr).mpr h2
          by_cases h0 : s.cur = 0
          · have hv : s.cur.val = 0 := by simp [h0]
            by_cases h3 : s.w[27] = 0x04
            · have he := (State.flagEot_iff hn).mpr h3
              have hi : decodeSel s.selector = some .accept := by
                rw [hd]; simp [hb', hn, hs, hrm, hcm, h0, he]
              refine ⟨_, .accept hb' hn h0 ?_ ?_ h3 (by rw [hf, hi]), fired hi rfl⟩
              · simpa [hv] using h1
              · simpa [hv] using h2
            · have he : s.flagEot = false := by
                rw [Bool.eq_false_iff]; exact fun h => h3 ((State.flagEot_iff hn).mp h)
              have hi : decodeSel s.selector = some .endfail := by
                rw [hd]; simp [hb', hn, hs, hrm, hcm, h0, he]
              refine ⟨_, .endfail hb' hn h0 ?_ ?_ h3, fired hi rfl⟩
              · simpa [hv] using h1
              · simpa [hv] using h2
          · have hi : decodeSel s.selector = some .cunal := by
              rw [hd]; simp [hb', hn, hc, hs, hrm, hcm, h0]
            exact ⟨_, .cunal hb' hn hr h1 h2 h0, fired hi rfl⟩
        · have hcm : s.flagCmp = false := by
            rw [Bool.eq_false_iff]; exact fun h => h2 ((State.flagCmp_iff hn hr).mp h)
          have hi : decodeSel s.selector = some .nocomp := by
            rw [hd]; simp [hb', hn, hc, hs, hrm, hcm]
          exact ⟨_, .nocomp hb' hn hr h1 h2, fired hi rfl⟩
      · have hrm : s.flagRoom = false := by
          rw [Bool.eq_false_iff]; exact fun h => hr (State.flagRoom_iff.mp h)
        have hi : decodeSel s.selector = some .cshort := by
          rw [hd]; simp [hb', hn, hc, hs, hrm]
        exact ⟨_, .cshort hb' hn hlt h1 (by omega), fired hi rfl⟩
    · have hs : s.flagSoh = false := by
        rw [Bool.eq_false_iff]; exact fun h => h1 ((State.flagSoh_iff hn hlt).mp h)
      have hi : decodeSel s.selector = some .skip := by
        rw [hd]; simp [hb', hn, hc, hs]
      exact ⟨_, .skip hb' hn hlt h1, fired hi rfl⟩
  · cases ho : s.offered with
    | none =>
      have hi : decodeSel s.selector = some .wait := by rw [hd]; simp [hb', hn, ho]
      exact ⟨s, .wait hb' hn ho, fired hi rfl⟩
    | some b =>
      have hi : decodeSel s.selector = some .fill := by rw [hd]; simp [hb', hn, ho]
      exact ⟨_, .fill b hb' hn ho, fired (m := "FILL") hi (by simp [exec, execFill, ho])⟩

/-- What a step that answers a next state was: reset, a function on its ports, a Synchronizer step within
the invariants of R29, or bytes that reach the transport. -/
theorem step_cases {s t : State} (h : step s = .next t) :
    (s.move = .rst ∧ t = s.resetBlock.popMove)
    ∨ (∃ w i r, s.move = .use w ∧ s.fetch = .op i ∧ decodePort w = .ok i ∧ t = (s.pushResult r).popMove)
    ∨ (∃ a o u, s.move = .sync a o ∧ s.legal = true ∧ SyncStep s u ∧ t = u.popMove)
    ∨ (s.fetch = .arrival ∧ (∀ a o, s.move ≠ .sync a o) ∧ t = s.receive.popMove) := by
  cases hm : s.move with
  | rst =>
    have hf : s.fetch = .reset := by simp [State.fetch, hm]
    simp only [step, hf, Host.Outcome.next.injEq] at h
    exact .inl ⟨rfl, h.symm⟩
  | use w =>
    cases hd : decodePort w with
    | ok i =>
      have hf : s.fetch = .op i := by simp [State.fetch, hm, hd]
      obtain ⟨r, hr⟩ := exec_of_decodePort hd s
      rw [step_of_op hf, hr, finish_next, Host.Outcome.next.injEq] at h
      exact .inr (.inl ⟨w, i, r, rfl, hf, hd, h.symm⟩)
    | error e =>
      have hf : s.fetch = .stop (.undecodable e) := by simp [State.fetch, hm, hd]
      simp [step, hf] at h
  | sync a o =>
    by_cases hl : s.legal = true
    · obtain ⟨u, hu, hs⟩ := step_sync hm hl
      rw [hs, Host.Outcome.next.injEq] at h
      exact .inr (.inr (.inl ⟨a, o, u, rfl, hl, hu, h.symm⟩))
    · have hf : s.fetch = .stop .outsideInvariants := by simp [State.fetch, hm, hl]
      simp [step, hf] at h
  | arrive bytes =>
    have hf : s.fetch = .arrival := by simp [State.fetch, hm]
    simp only [step, hf, Host.Outcome.next.injEq] at h
    exact .inr (.inr (.inr ⟨hf, by simp, h.symm⟩))
  | arriveAny =>
    have hf : s.fetch = .arrival := by simp [State.fetch, hm]
    simp only [step, hf, Host.Outcome.next.injEq] at h
    exact .inr (.inr (.inr ⟨hf, by simp, h.symm⟩))

end Sys2Proof.Machine
end

