-- ==== Sys2Proof/Laws/Codec.lean ====
section
/-! SUPPORT. The bits of the assembled fields, and the bytes of a packed frame, one lemma each. -/

namespace Sys2Proof

theorem getLsbD_cat2 (hi lo : Byte) (k : Nat) :
    (cat2 hi lo).getLsbD k = if k < 8 then lo.getLsbD k else hi.getLsbD (k - 8) := by
  unfold cat2
  rw [BitVec.getLsbD_append]

theorem getLsbD_cat4 (b3 b2 b1 b0 : Byte) (k : Nat) :
    (cat4 b3 b2 b1 b0).getLsbD k =
      if k < 8 then b0.getLsbD k
      else if k < 16 then b1.getLsbD (k - 8)
      else if k < 24 then b2.getLsbD (k - 16)
      else b3.getLsbD (k - 24) := by
  unfold cat4
  rw [BitVec.getLsbD_append, BitVec.getLsbD_append, BitVec.getLsbD_append]
  by_cases h0 : k < 8
  · simp only [h0, if_true]
  by_cases h1 : k < 16
  · have h1' : k - 8 < 8 := by omega
    simp only [h0, h1, h1', if_false, if_true]
  by_cases h2 : k < 24
  · have h1' : ¬ k - 8 < 8 := by omega
    have e : k - 8 - 8 = k - 16 := by omega
    have h2' : k - 16 < 8 := by omega
    simp only [h0, h1, h2, h1', h2', e, if_false, if_true]
  · have h1' : ¬ k - 8 < 8 := by omega
    have h2' : ¬ k - 8 - 8 < 8 := by omega
    have e : k - 8 - 8 - 8 = k - 24 := by omega
    simp only [h0, h1, h2, h1', h2', e, if_false]

/-- Splitting a 16-bit field into its bytes and assembling it gives it back. -/
@[simp] theorem cat2_extract (v : BitVec 16) : cat2 (v.extractLsb' 8 8) (v.extractLsb' 0 8) = v := by
  refine BitVec.eq_of_getLsbD_eq fun k hk => ?_
  rw [getLsbD_cat2]
  split
  · rename_i h; simp [h]
  · rename_i h
    have h' : k - 8 < 8 := by omega
    have e : 8 + (k - 8) = k := by omega
    simp [h', e]

/-- Splitting a 32-bit field into its bytes and assembling it gives it back. -/
@[simp] theorem cat4_extract (v : BitVec 32) :
    cat4 (v.extractLsb' 24 8) (v.extractLsb' 16 8) (v.extractLsb' 8 8) (v.extractLsb' 0 8) = v := by
  refine BitVec.eq_of_getLsbD_eq fun k hk => ?_
  rw [getLsbD_cat4]
  simp only [BitVec.getLsbD_extractLsb']
  split
  · rename_i h; simp [h]
  split
  · have h' : k - 8 < 8 := by omega
    have e : 8 + (k - 8) = k := by omega
    simp [h', e]
  split
  · have h' : k - 16 < 8 := by omega
    have e : 16 + (k - 16) = k := by omega
    simp [h', e]
  · have h' : k - 24 < 8 := by omega
    have e : 24 + (k - 24) = k := by omega
    simp [h', e]

/-- Assembling a 16-bit field and taking a byte of it gives that byte. -/
@[simp] theorem extract_cat2_hi (hi lo : Byte) : (cat2 hi lo).extractLsb' 8 8 = hi := by
  refine BitVec.eq_of_getLsbD_eq fun k hk => ?_
  have h : ¬ 8 + k < 8 := by omega
  simp [getLsbD_cat2, hk]

@[simp] theorem extract_cat2_lo (hi lo : Byte) : (cat2 hi lo).extractLsb' 0 8 = lo := by
  refine BitVec.eq_of_getLsbD_eq fun k hk => ?_
  simp [getLsbD_cat2, hk]

/-- Assembling a 32-bit field and taking a byte of it gives that byte. -/
@[simp] theorem extract_cat4_3 (b3 b2 b1 b0 : Byte) : (cat4 b3 b2 b1 b0).extractLsb' 24 8 = b3 := by
  refine BitVec.eq_of_getLsbD_eq fun k hk => ?_
  have h0 : ¬ 24 + k < 8 := by omega
  have h1 : ¬ 24 + k < 16 := by omega
  simp [getLsbD_cat4, hk, h0, h1]

@[simp] theorem extract_cat4_2 (b3 b2 b1 b0 : Byte) : (cat4 b3 b2 b1 b0).extractLsb' 16 8 = b2 := by
  refine BitVec.eq_of_getLsbD_eq fun k hk => ?_
  have h0 : ¬ 16 + k < 8 := by omega
  have h1 : 16 + k < 24 := by omega
  simp [getLsbD_cat4, hk, h0, h1]

@[simp] theorem extract_cat4_1 (b3 b2 b1 b0 : Byte) : (cat4 b3 b2 b1 b0).extractLsb' 8 8 = b1 := by
  refine BitVec.eq_of_getLsbD_eq fun k hk => ?_
  have h1 : 8 + k < 16 := by omega
  simp [getLsbD_cat4, hk, h1]

@[simp] theorem extract_cat4_0 (b3 b2 b1 b0 : Byte) : (cat4 b3 b2 b1 b0).extractLsb' 0 8 = b0 := by
  refine BitVec.eq_of_getLsbD_eq fun k hk => ?_
  simp [getLsbD_cat4, hk]

end Sys2Proof
end

