-- ==== Sys2Proof/Laws/PerInstr.lean ====
section
/-! SUPPORT. The statement made of every operation as syntax: the word the encoder gives it is well formed (R81, R91, R93). -/

namespace Sys2Proof

/-- The word of an operation is well formed: an ENC word has its 32 fixed bits, a transition's
selector vector is not the idle row's. -/
def Laws.WordWellFormed.Statement (i : Instr) : Prop := (encode i).wellFormed = true

theorem Laws.WordWellFormed.enc (snapshot : Snapshot) (protocolId : Byte) :
    Laws.WordWellFormed.Statement (.enc snapshot protocolId) := by
  simp [Laws.WordWellFormed.Statement, encode, OpWord.wellFormed, PortWord.wellFormed, packFrame]

theorem Laws.WordWellFormed.valid (window : Frame) : Laws.WordWellFormed.Statement (.valid window) := rfl

theorem Laws.WordWellFormed.dec (window : Frame) : Laws.WordWellFormed.Statement (.dec window) := rfl

theorem Laws.WordWellFormed.start : Laws.WordWellFormed.Statement .start := rfl

theorem Laws.WordWellFormed.wait : Laws.WordWellFormed.Statement .wait := rfl

theorem Laws.WordWellFormed.fill : Laws.WordWellFormed.Statement .fill := rfl

theorem Laws.WordWellFormed.wreset : Laws.WordWellFormed.Statement .wreset := rfl

theorem Laws.WordWellFormed.skip : Laws.WordWellFormed.Statement .skip := rfl

theorem Laws.WordWellFormed.cshort : Laws.WordWellFormed.Statement .cshort := rfl

theorem Laws.WordWellFormed.nocomp : Laws.WordWellFormed.Statement .nocomp := rfl

theorem Laws.WordWellFormed.cunal : Laws.WordWellFormed.Statement .cunal := rfl

theorem Laws.WordWellFormed.endfail : Laws.WordWellFormed.Statement .endfail := rfl

theorem Laws.WordWellFormed.accept : Laws.WordWellFormed.Statement .accept := rfl

theorem Laws.WordWellFormed.setd (snapshot : Snapshot) (pin : Byte) (state : Bool) :
    Laws.WordWellFormed.Statement (.setd snapshot pin state) := rfl

theorem Laws.WordWellFormed.getd (snapshot : Snapshot) (pin : Byte) :
    Laws.WordWellFormed.Statement (.getd snapshot pin) := rfl

theorem Laws.WordWellFormed.seta (snapshot : Snapshot) (channel : Byte) (value : BitVec 16) :
    Laws.WordWellFormed.Statement (.seta snapshot channel value) := rfl

end Sys2Proof
end

