-- ==== Sys2Proof/Tests/Slice0.lean ====
section
/-! SUPPORT. Tests of the model on the values of spec/95_test_vectors.md and of the rules' own examples, and for each obligation with hypotheses a witness that meets them. -/

namespace Sys2Proof.Tests

open Sys2Proof.Machine Sys2Proof.Safety

/-! ## Builders -/

/-- The frame of V4, `W4` of 95_test_vectors.md. -/
def w4 : Frame :=
  #v[0x01, 0x42, 0x1B, 0xE4, 0x12, 0x34, 0x56, 0x78, 0x30, 0x31, 0x2E, 0x2F, 0x1C, 0x1D, 0x0A, 0x0B,
     0x01, 0xA0, 0xA1, 0xA2, 0xA3, 0xA4, 0xB0, 0xB1, 0xB2, 0xB3, 0xB4, 0x04]

/-- The Snapshot of V4. -/
def s4 : Snapshot :=
  { digitalIo := 0x12345678, analogIo := #v[0x0A0B, 0x1C1D, 0x2E2F, 0x3031], auxFlag := 0x01,
    auxA := #v[0xA0, 0xA1, 0xA2, 0xA3, 0xA4], auxB := #v[0xB0, 0xB1, 0xB2, 0xB3, 0xB4] }

/-- A Snapshot of zeros but for `digital_io`. -/
def dio (d : BitVec 32) : Snapshot := { Snapshot.zero with digitalIo := d }

/-- The window whose first bytes are those of the list, the rest `pad`. -/
def win (pad : Byte) (l : List Byte) : Frame := Vector.ofFn fun j => l.getD j.val pad

/-- A state of the rows of part 4: `BUSY`, `NEED`, `CUR`, `W`, then the coming `start` level, whether
the transport offers, and what it holds. -/
def st (busy : Bool) (need cur : Fin 29) (w : Frame) (start offer : Bool) (rx : List Byte) : State :=
  { w := w, cur := cur, need := need, busy := busy, rxsnap := Snapshot.zero, rx := rx,
    script := [.sync start offer], habit := [], given := [], delivered := [], results := [], draws := 0 }

/-- The step fires `i`, and the state after it passes `p`. -/
def steps (s : State) (i : Instr) (p : State → Bool) : Bool :=
  s.fetch == .op i &&
  match step s with
  | .next t => p t
  | .fault _ => false
  | .refused _ => false

/-- The control registers `BUSY`, `NEED`, `CUR`. -/
def ctl (s : State) : Bool × Nat × Nat := (s.busy, s.need.val, s.cur.val)

/-- The step answers a next state. -/
def goesOn (s : State) : Bool :=
  match step s with
  | .next _ => true
  | .fault _ => false
  | .refused _ => false

/-- What the last use of a function port showed. -/
def shows (i : Instr) (r : PortResult) : Bool :=
  match exec i (st false 28 0 (win 0 []) false false []) with
  | .next t => t.results == [r]
  | .fault _ => false
  | .refused _ => false

/-! ## WellFormed: each check refuses an ill-formed word -/

theorem test_wf_enc_start : (PortWord.enc (w4.set 0 0x02)).wellFormed = false := by decide

theorem test_wf_enc_length : (PortWord.enc (w4.set 2 0x1A)).wellFormed = false := by decide

theorem test_wf_enc_complement : (PortWord.enc (w4.set 3 0xE5)).wellFormed = false := by decide

theorem test_wf_enc_end : (PortWord.enc (w4.set 27 0x05)).wellFormed = false := by decide

theorem test_wf_idle_selector : (OpWord.sel 0b0011111111#10).wellFormed = false := by decide

theorem test_wf_good : (PortWord.enc w4).wellFormed = true ∧ (OpWord.sel 0b1000000000#10).wellFormed = true := by
  decide

/-! ## Decode: words written out from the encodings of R81, R91, R93 -/

/-- R81's pattern with `P` = 42 and the payload of V4. -/
theorem test_decode_enc : decode (.port (.enc w4)) = .ok (.enc s4 0x42) := by decide

/-- An ENC word with a wrong fixed byte is rejected by the byte's name (R81). -/
theorem test_decode_enc_bad : decode (.port (.enc (w4.set 27 0x05))) = .error .encEndMarker := by decide

theorem test_decode_valid : decode (.port (.valid w4)) = .ok (.valid w4) := by decide

theorem test_decode_dec : decode (.port (.dec w4)) = .ok (.dec w4) := by decide

/-- `10--------` with the bits of V41. -/
theorem test_decode_start : decode (.sel 0b1010001010#10) = .ok .start := by decide

/-- `-110------` with the bits of V43 and V44. -/
theorem test_decode_wait : decode (.sel 0b1110001010#10) = .ok .wait ∧ decode (.sel 0b0110001010#10) = .ok .wait := by
  decide

/-- `-111------` with the bits of V45. -/
theorem test_decode_fill : decode (.sel 0b0111001010#10) = .ok .fill := by decide

/-- `-10-1-----` with the bits of V47 and V48. -/
theorem test_decode_wreset :
    decode (.sel 0b0100100000#10) = .ok .wreset ∧ decode (.sel 0b1101100000#10) = .ok .wreset := by decide

/-- `-10-00----` with the bits of V49 and V51. -/
theorem test_decode_skip :
    decode (.sel 0b0100001010#10) = .ok .skip ∧ decode (.sel 0b0100000001#10) = .ok .skip := by decide

/-- `-10-010---` with the bits of V52. -/
theorem test_decode_cshort : decode (.sel 0b0100010000#10) = .ok .cshort := by decide

/-- `-10-0110--` with the bits of V55 and V59. -/
theorem test_decode_nocomp :
    decode (.sel 0b0100011000#10) = .ok .nocomp ∧ decode (.sel 0b0100011010#10) = .ok .nocomp := by decide

/-- `-10-01110-` with the bits of V54. -/
theorem test_decode_cunal : decode (.sel 0b0100011100#10) = .ok .cunal := by decide

/-- `-10-011110` with the bits of V58. -/
theorem test_decode_endfail : decode (.sel 0b0100011110#10) = .ok .endfail := by decide

/-- `-10-011111` with the bits of V60 and V61. -/
theorem test_decode_accept :
    decode (.sel 0b0100011111#10) = .ok .accept ∧ decode (.sel 0b1101011111#10) = .ok .accept := by decide

/-- `00--------` with the bits of V40. -/
theorem test_decode_idle : decode (.sel 0b0010001010#10) = .error .idleSelector := by decide

/-- `nnnnnnnnv`: pin 7, state 1. -/
theorem test_decode_setd : decode (.port (.setd 0b000001111#9 s4)) = .ok (.setd s4 7 true) := by decide

/-- `nnnnnnnn`: pin 255. -/
theorem test_decode_getd : decode (.port (.getd 0b11111111#8 s4)) = .ok (.getd s4 0xFF) := by decide

/-- `cccccccc vvvvvvvv vvvvvvvv`: channel 3, value FFAA. -/
theorem test_decode_seta : decode (.port (.seta 0x03FFAA#24 s4)) = .ok (.seta s4 3 0xFFAA) := by decide

/-! ## The sizes of R6 -/

/-- R6's own check: the field sizes sum to 28, and the Snapshot's arrays have the named lengths. -/
theorem test_R6_sizes :
    1 + 1 + 1 + 1 + 4 + 2 * Config.nAnalog + 1 + Config.auxLen + Config.auxLen + 1 = Config.windowSize
      ∧ s4.auxA.toList.length = Config.auxLen ∧ s4.auxB.toList.length = Config.auxLen
      ∧ s4.analogIo.toList.length = Config.nAnalog := by decide

/-! ## The codec: part 2 -/

/-- V1, the scenario of S2 and R187. -/
theorem test_enc_V1 :
    shows (.enc { dio 0x00010000 with analogIo := #v[0xFFAA, 0xFFAA, 0xFFAA, 0xFFAA] } 0x00)
      (.encFrame #v[0x01, 0x00, 0x1B, 0xE4, 0x00, 0x01, 0x00, 0x00, 0xFF, 0xAA, 0xFF, 0xAA, 0xFF, 0xAA, 0xFF, 0xAA,
        0x00, 0x00, 0x00, 0x00, 0x00, 0x00, 0x00, 0x00, 0x00, 0x00, 0x00, 0x04]) = true := by decide

/-- V4, every payload byte distinct. -/
theorem test_enc_V4 : shows (.enc s4 0x42) (.encFrame w4) = true := by decide

/-- V7: channel 3 from offsets 8, 9. -/
theorem test_dec_V7 : shows (.dec w4) (.decSnapshot s4) = true := by decide

/-- V16: DEC of bytes that are not valid. -/
theorem test_dec_V16 : shows (.dec (w4.set 27 0x05)) (.decSnapshot s4) = true := by decide

/-- V12, V13: the pair need not be `1B E4`. -/
theorem test_valid_V12_V13 :
    shows (.valid ((w4.set 2 0x00).set 3 0xFF)) (.valOk true) = true
      ∧ shows (.valid ((w4.set 2 0xE4).set 3 0x1B)) (.valOk true) = true := by decide

/-- V8 to V11: one structural byte changed. -/
theorem test_valid_V8_V11 :
    shows (.valid (w4.set 0 0x81)) (.valOk false) = true ∧ shows (.valid (w4.set 2 0x1A)) (.valOk false) = true
      ∧ shows (.valid (w4.set 3 0xE5)) (.valOk false) = true
      ∧ shows (.valid (w4.set 27 0x00)) (.valOk false) = true := by decide

/-! ## The accessors: part 3 -/

/-- V21, V22, V28: pin 15 is bit 31, clearing, one bit only. -/
theorem test_setd_V21_V22_V28 :
    shows (.setd (dio 0x00010000) 0x0F true) (.sdResult (dio 0x80010000)) = true
      ∧ shows (.setd (dio 0x80010000) 0x00 false) (.sdResult (dio 0x80000000)) = true
      ∧ shows (.setd (dio 0xFFFFFFFF) 0x09 false) (.sdResult (dio 0xFDFFFFFF)) = true := by decide

/-- V23, V24: out of range. -/
theorem test_setd_V23_V24 :
    shows (.setd s4 0x10 true) (.sdResult s4) = true ∧ shows (.setd s4 0x80 false) (.sdResult s4) = true := by
  decide

/-- V25: pin -1 reads as false even with every bit set. -/
theorem test_getd_V25 : shows (.getd (dio 0xFFFFFFFF) 0xFF) (.gdValue false) = true := by decide

/-- V26: bits 16 and 21. -/
theorem test_getd_V26 :
    shows (.getd (dio 0x00210000) 0x05) (.gdValue true) = true
      ∧ shows (.getd (dio 0x00210000) 0x04) (.gdValue false) = true := by decide

/-- V31, V32: channel 3 and channel 0. -/
theorem test_seta_V31_V32 :
    shows (.seta Snapshot.zero 0x03 0xFFAA) (.saResult { Snapshot.zero with analogIo := #v[0, 0, 0, 0xFFAA] }) = true
      ∧ shows (.seta Snapshot.zero 0x00 0x0123)
        (.saResult { Snapshot.zero with analogIo := #v[0x0123, 0, 0, 0] }) = true := by decide

/-- V33: out of range. -/
theorem test_seta_V33 : shows (.seta s4 0x04 0x7777) (.saResult s4) = true := by decide

/-! ## The transitions one at a time: part 4 -/

/-- V40: the idle row. -/
theorem test_step_V40 :
    (st false 28 0 (win 0 []) false false []).fetch = .idle
      ∧ (match step (st false 28 0 (win 0 []) false false []) with
        | .next t => t == { st false 28 0 (win 0 []) false false [] with script := [] }
        | .fault _ => false
        | .refused _ => false) = true
      ∧ (st false 28 0 (win 0 []) false false []).selector = 0b0010001010#10 := by decide

/-- V42: START does not take the offered byte. -/
theorem test_step_V42 :
    steps (st false 28 0 (win 0 []) true true [0x33]) .start (fun t => ctl t == (true, 28, 0) && t.rx == [0x33]) = true := by
  decide

/-- V43: `start` is ignored while busy. -/
theorem test_step_V43 :
    steps (st true 28 0 (win 0 []) true false [0x33]) .wait (fun t => ctl t == (true, 28, 0) && t.rx == [0x33]) = true := by
  decide

/-- The state of V44 and V45. -/
def v44 (offer : Bool) : State :=
  st true 18 0 (win 0 [0x01, 0x42, 0x1B, 0xE4, 0x12, 0x34, 0x56, 0x78, 0x30, 0x31]) false offer [0x2E]

/-- V44: WAIT, `rx_ready` is 1. -/
theorem test_step_V44 : steps (v44 false) .wait (fun t => ctl t == (true, 18, 0) && t.w == (v44 false).w) = true
    ∧ (v44 false).rxReady = true := by decide

/-- V45: FILL. -/
theorem test_step_V45 :
    steps (v44 true) .fill (fun t => ctl t == (true, 17, 0) && t.w == (v44 true).w.set 10 0x2E && t.rx == []) = true := by
  decide

/-- V46: the last FILL. -/
theorem test_step_V46 :
    steps (st true 1 0 (w4.set 27 0x99) false true [0x04]) .fill
      (fun t => ctl t == (true, 0, 0) && t.w == w4 && !t.rxReady) = true := by decide

/-- V47. -/
theorem test_step_V47 :
    steps (st true 0 28 (win 0 []) false false []) .wreset (fun t => ctl t == (true, 28, 0) && t.w == win 0 []) = true := by
  decide

/-- V48: the byte is not taken. -/
theorem test_step_V48 :
    steps (st true 0 28 (win 0 []) true true [0x11]) .wreset (fun t => ctl t == (true, 28, 0) && t.rx == [0x11]) = true := by
  decide

/-- The window of V49: `AA BB CC` then `W4[0..24]`. -/
def w49 : Frame := win 0 ([0xAA, 0xBB, 0xCC] ++ w4.toList.take 25)

/-- V49. -/
theorem test_step_V49 : steps (st true 0 0 w49 false false []) .skip (fun t => ctl t == (true, 0, 1)) = true := by
  decide

/-- V51: `EOT` plays no part. -/
theorem test_step_V51 :
    steps (st true 0 27 ((win 0 []).set 27 0x04) false false []) .skip (fun t => ctl t == (true, 0, 28)) = true := by
  decide

/-- V52: the tail keeps its bytes. -/
theorem test_step_V52 :
    steps (st true 0 27 ((win 0x7E []).set 27 0x01) false false []) .cshort
      (fun t => ctl t == (true, 27, 0) && t.w == ((win 0x7E []).set 27 0x01).set 0 0x01) = true := by decide

/-- The window of V53: 25 times `55`, then `01 42 1B`. -/
def w53 : Frame := win 0 (List.replicate 25 0x55 ++ [0x01, 0x42, 0x1B])

/-- V53: at cursor 25 there is no room. -/
theorem test_step_V53 :
    steps (st true 0 25 w53 false false []) .cshort
      (fun t => ctl t == (true, 25, 0) && t.w.toList.take 3 == [0x01, 0x42, 0x1B]) = true := by decide

/-- The window of V54: 24 times `55`, then `01 42 1B` and a last byte. -/
def w54 (last : Byte) : Frame := win 0 (List.replicate 24 0x55 ++ [0x01, 0x42, 0x1B, last])

/-- V54: the last cursor with room. -/
theorem test_step_V54 :
    steps (st true 0 24 (w54 0xE4) false false []) .cunal
      (fun t => ctl t == (true, 24, 0) && t.w.toList.take 4 == [0x01, 0x42, 0x1B, 0xE4]) = true := by decide

/-- V55. -/
theorem test_step_V55 :
    steps (st true 0 24 (w54 0xE5) false false []) .nocomp (fun t => ctl t == (true, 0, 25) && t.w == w54 0xE5) = true := by
  decide

/-- The window of V56 and V57. -/
def w56 : Frame := win 0 ([0x10, 0x01, 0x20, 0x30, 0x40, 0x01, 0x99, 0x0F, 0xF0, 0x77] ++ w4.toList.take 18)

/-- V57: `W[0..22]` is what `W[5..27]` was, `W[23..27]` keep `1D 0A 0B 01 A0`. -/
theorem test_step_V57 :
    steps (st true 0 5 w56 false false []) .cunal
      (fun t => ctl t == (true, 5, 0)
        && t.w.toList == [0x01, 0x99, 0x0F, 0xF0, 0x77] ++ w4.toList.take 18 ++ [0x1D, 0x0A, 0x0B, 0x01, 0xA0]) = true := by
  decide

/-- The window of V58 and V59, the fourth byte apart. -/
def w58 (b : Byte) : Frame := win 0 ([0x01, 0x99, 0x0F, b, 0x77] ++ w4.toList.take 23)

/-- V58. -/
theorem test_step_V58 :
    steps (st true 0 0 (w58 0xF0) false false []) .endfail (fun t => ctl t == (true, 0, 1) && t.w == w58 0xF0) = true := by
  decide

/-- V59: a bad pair at the front. -/
theorem test_step_V59 :
    steps (st true 0 0 (w58 0xF1) false false []) .nocomp (fun t => ctl t == (true, 0, 1)) = true := by decide

/-- V60. -/
theorem test_step_V60 :
    steps (st true 0 0 w4 false false []) .accept
      (fun t => ctl t == (false, 28, 0) && t.rxsnap == s4 && t.delivered == [⟨0, s4⟩]) = true
      ∧ (st true 0 0 w4 false false []).snapValid = true := by decide

/-- V61: the byte is not taken and `start` is not sampled. -/
theorem test_step_V61 :
    steps (st true 0 0 w4 true true [0x99]) .accept (fun t => ctl t == (false, 28, 0) && t.rx == [0x99]) = true
      ∧ (st true 0 0 w4 true true [0x99]).selector = 0b1101011111#10 := by decide

/-! ## Words of the opcode table, placed after reset -/

theorem test_table_enc :
    decodeTableWord 224 0x01421BE41234567830312E2F1C1D0A0B01A0A1A2A3A4B0B1B2B3B404 = some (.enc s4 0x42) := by
  decide

theorem test_table_valid :
    decodeTableWord 224 0x01000000000000000000000000000000000000000000000000000004
      = some (.valid ((win 0 [0x01]).set 27 0x04)) := by decide

theorem test_table_dec : decodeTableWord 224 0 = some (.dec (win 0 [])) := by decide

theorem test_table_transitions :
    [0x200, 0x180, 0x1C0, 0x120, 0x100, 0x110, 0x118, 0x11C, 0x11E, 0x11F].map (decodeTableWord 16)
      = [some .start, some .wait, some .fill, some .wreset, some .skip, some .cshort, some .nocomp, some .cunal,
         some .endfail, some .accept] := by decide

theorem test_table_accessors :
    decodeTableWord 16 0b000001111 = some (.setd Snapshot.zero 7 true)
      ∧ decodeTableWord 8 0x05 = some (.getd Snapshot.zero 5)
      ∧ decodeTableWord 24 0x03FFAA = some (.seta Snapshot.zero 3 0xFFAA) := by decide

/-- The transitions' words, placed after reset, run as the first step. -/
theorem test_placed_transitions :
    ([0x200, 0x180, 0x1C0, 0x120, 0x100, 0x110, 0x118, 0x11C, 0x11E, 0x11F].all fun w =>
      (match decodeTableWord 16 w with
        | some i => (State.reset.withFetchWord 16 w).fetch == .op i
        | none => false) && goesOn (State.reset.withFetchWord 16 w)) = true := by decide

/-- The functions' words, placed after reset, run as the first step. -/
theorem test_placed_functions :
    goesOn (State.reset.withFetchWord 16 0) = true ∧ goesOn (State.reset.withFetchWord 8 0) = true
      ∧ goesOn (State.reset.withFetchWord 24 0) = true ∧ goesOn (State.reset.withFetchWord 224 0) = true
      ∧ goesOn (State.reset.withFetchWord 224 (1 <<< 216 + 4)) = true
      ∧ goesOn (State.reset.withFetchWord 224 0x01421BE41234567830312E2F1C1D0A0B01A0A1A2A3A4B0B1B2B3B404) = true := by
  decide

/-! ## Witnesses: for each obligation with hypotheses, values that meet them -/

/-- The outcome is a next state that passes `p`. -/
def next? (o : Host.Outcome State Fault Refusal) (p : State → Bool) : Bool :=
  match o with
  | .next t => p t
  | .fault _ => false
  | .refused _ => false

theorem next?_spec {o : Host.Outcome State Fault Refusal} {p : State → Bool} (h : next? o p = true) :
    ∃ t, o = .next t ∧ p t = true := by
  cases o with
  | next t => exact ⟨t, rfl, h⟩
  | fault r => cases r
  | refused r => cases h

/-- O2. -/
theorem witness_EncIsTotalAndInjective : encFrame s4 0x42 = encFrame s4 0x42 := rfl

/-- O5: the five bytes that DEC does not read differ. -/
theorem witness_DecDependsOnPayloadOnly :
    (∀ j : Fin 28, 4 ≤ j.val → j.val ≤ 26 →
      w4[j] = (((((w4.set 0 0x02).set 1 0x99).set 2 0x00).set 3 0x00).set 27 0x05)[j]) ∧ w4[27] ≠ (0x05 : Byte) := by
  decide

/-- O8: the four structural bytes are ENC's, and a valid frame whose are not (V17's length pair). -/
theorem witness_EncodedFramesAreValid :
    (w4[0] = 0x01 ∧ w4[2] = 0x1B ∧ w4[3] = 0xE4 ∧ w4[27] = 0x04)
      ∧ validFrame ((w4.set 2 0x00).set 3 0xFF) = true
      ∧ encFrame (decFrame ((w4.set 2 0x00).set 3 0xFF)) 0x42 ≠ (w4.set 2 0x00).set 3 0xFF := by decide

/-- O9: each of the four single changes, and a change elsewhere (V8 to V11, V14). -/
theorem witness_ValidityGate :
    validFrame w4 = true
      ∧ ((w4.set 0 0x00)[0] ≠ w4[0] ∧ (w4.set 0 0x00)[2] = w4[2] ∧ (w4.set 0 0x00)[3] = w4[3] ∧ (w4.set 0 0x00)[27] = w4[27])
      ∧ ((w4.set 2 0x1A)[0] = w4[0] ∧ (w4.set 2 0x1A)[2] ≠ w4[2] ∧ (w4.set 2 0x1A)[3] = w4[3] ∧ (w4.set 2 0x1A)[27] = w4[27])
      ∧ ((w4.set 3 0xE5)[0] = w4[0] ∧ (w4.set 3 0xE5)[2] = w4[2] ∧ (w4.set 3 0xE5)[3] ≠ w4[3] ∧ (w4.set 3 0xE5)[27] = w4[27])
      ∧ ((w4.set 27 0x05)[0] = w4[0] ∧ (w4.set 27 0x05)[2] = w4[2] ∧ (w4.set 27 0x05)[3] = w4[3] ∧ (w4.set 27 0x05)[27] ≠ w4[27])
      ∧ ((w4.set 1 0x99)[0] = w4[0] ∧ (w4.set 1 0x99)[2] = w4[2] ∧ (w4.set 1 0x99)[3] = w4[3] ∧ (w4.set 1 0x99)[27] = w4[27]) := by
  decide

/-- O10, O11, O12: the last operand in range and the first out of range. -/
theorem witness_range_boundaries :
    ((0x0F : Byte).toNat ≤ 15 ∧ 31 = 16 + (0x0F : Byte).toNat ∧ 15 < (0x10 : Byte).toNat)
      ∧ (3 = (0x03 : Byte).toNat ∧ ∀ c : Fin 4, c.val ≠ (0x04 : Byte).toNat) := by decide

/-- O13: the premises of its clauses at 16, 4 and 80 (hexadecimal). -/
theorem witness_OutOfRangeOperandsDoNothing :
    15 < (0x10 : Byte).toNat ∧ 3 < (0x04 : Byte).toNat ∧ (0x80 : Byte).getLsbD 7 = true := by decide

/-- O14. -/
theorem witness_AccessorRoundTrip : (0x0F : Byte).toNat ≤ 15 ∧ (0x00 : Byte).toNat ≤ 15 ∧ (0x00 : Byte) ≠ 0x0F := by
  decide

/-- O15: an operation of each of its six kinds. -/
theorem witness_FunctionsTouchNothing :
    ∀ i ∈ [Instr.enc s4 5, .valid w4, .dec w4, .setd s4 5 true, .getd s4 5, .seta s4 5 0x7777],
      i = .enc s4 5 ∨ i = .valid w4 ∨ i = .dec w4 ∨ i = .setd s4 5 true ∨ i = .getd s4 5 ∨ i = .seta s4 5 0x7777 := by
  decide

/-- O16. -/
theorem witness_StartSetsBusy :
    (st false 28 0 w4 true false []).startIn = true ∧ (st false 28 0 w4 true false []).busy = false
      ∧ (st false 28 0 w4 true false []).need = 28 := by decide

/-- O17. -/
theorem witness_WaitChangesNothing :
    (v44 false).busy = true ∧ (v44 false).need ≠ 0 ∧ (v44 false).offered = none ∧ (v44 false).rstIn = false := by
  decide

/-- O18: `NEED` 28 and `NEED` 1. -/
theorem witness_FillStoresTheByte :
    ∀ n ∈ [(28 : Fin 29), 1], (st true n 0 w4 false true [0x11]).busy = true
      ∧ (st true n 0 w4 false true [0x11]).need ≠ 0 ∧ (st true n 0 w4 false true [0x11]).offered = some 0x11 := by
  decide

/-- O19. -/
theorem witness_WresetAsksForAWindow :
    (st true 0 28 w4 false false []).busy = true ∧ (st true 0 28 w4 false false []).need = 0
      ∧ (st true 0 28 w4 false false []).cur = 28 := by decide

/-- O20: the last cursor (V50). -/
theorem witness_SkipAdvances :
    (st true 0 27 (win 0 []) false false []).busy = true ∧ (st true 0 27 (win 0 []) false false []).need = 0
      ∧ (win 0 [])[27] ≠ 0x01 := by decide

/-- O21: cursors 25 and 27 (V53, V52). -/
theorem witness_CshortCompacts :
    ((st true 0 25 w53 false false []).busy = true ∧ (st true 0 25 w53 false false []).need = 0 ∧ w53[25] = 0x01
        ∧ 28 ≤ (st true 0 25 w53 false false []).cur.val + 3)
      ∧ ((st true 0 27 ((win 0 []).set 27 0x01) false false []).need = 0 ∧ ((win 0 []).set 27 0x01)[27] = 0x01) := by
  decide

/-- O22: cursor 24 (V55). -/
theorem witness_NocompAdvances :
    (st true 0 24 (w54 0xE5) false false []).cur.val + 3 < 28 ∧ (st true 0 24 (w54 0xE5) false false []).busy = true
      ∧ (st true 0 24 (w54 0xE5) false false []).need = 0 ∧ (w54 0xE5)[24] = 0x01
      ∧ (w54 0xE5)[24 + 2] ^^^ (w54 0xE5)[24 + 3] ≠ 0xFF := by decide

/-- O23: cursor 1, the least. -/
theorem witness_CunalCompacts_front :
    (st true 0 1 (win 0 [0x55, 0x01, 0x42, 0x1B, 0xE4]) false false []).cur.val + 3 < 28
      ∧ (st true 0 1 (win 0 [0x55, 0x01, 0x42, 0x1B, 0xE4]) false false []).busy = true
      ∧ (st true 0 1 (win 0 [0x55, 0x01, 0x42, 0x1B, 0xE4]) false false []).need = 0
      ∧ (win 0 [0x55, 0x01, 0x42, 0x1B, 0xE4])[1] = 0x01
      ∧ (win 0 [0x55, 0x01, 0x42, 0x1B, 0xE4])[1 + 2] ^^^ (win 0 [0x55, 0x01, 0x42, 0x1B, 0xE4])[1 + 3] = 0xFF
      ∧ (st true 0 1 (win 0 [0x55, 0x01, 0x42, 0x1B, 0xE4]) false false []).cur ≠ 0 := by decide

/-- O23: cursor 24, the greatest (V54). -/
theorem witness_CunalCompacts :
    (st true 0 24 (w54 0xE4) false false []).cur.val + 3 < 28 ∧ (st true 0 24 (w54 0xE4) false false []).busy = true
      ∧ (st true 0 24 (w54 0xE4) false false []).need = 0 ∧ (w54 0xE4)[24] = 0x01
      ∧ (w54 0xE4)[24 + 2] ^^^ (w54 0xE4)[24 + 3] = 0xFF ∧ (st true 0 24 (w54 0xE4) false false []).cur ≠ 0 := by decide

/-- O24 (V58). -/
theorem witness_EndfailAdvances :
    (st true 0 0 (w58 0xF0) false false []).busy = true ∧ (st true 0 0 (w58 0xF0) false false []).need = 0
      ∧ (st true 0 0 (w58 0xF0) false false []).cur = 0 ∧ (w58 0xF0)[0] = 0x01
      ∧ (w58 0xF0)[2] ^^^ (w58 0xF0)[3] = 0xFF ∧ (w58 0xF0)[27] ≠ 0x04 := by decide

/-- O25 (V60). -/
theorem witness_AcceptDelivers :
    (st true 0 0 w4 false false []).busy = true ∧ (st true 0 0 w4 false false []).need = 0
      ∧ (st true 0 0 w4 false false []).cur = 0 ∧ w4[0] = 0x01 ∧ w4[2] ^^^ w4[3] = 0xFF ∧ w4[27] = 0x04
      ∧ (st true 0 0 w4 false false []).legal = true ∧ (st true 0 0 w4 false false []).move = .sync false false := by
  decide

/-- O27: each bit that a byte or a counter decides is 1 somewhere. -/
theorem witness_SelectorBitsAreTheTests :
    (st true 0 0 w4 true true [0x99]).selector = 0b1101011111#10
      ∧ (st true 0 28 w4 false false []).selector = 0b0100100001#10
      ∧ (v44 true).selector = 0b0111001010#10 := by decide

/-- O28: legal states in which each of its premises holds. -/
theorem witness_ImpossibleSelectors :
    ((st true 0 28 w4 false false []).legal = true ∧ (st true 0 28 w4 false false []).selector.getLsbD 5 = true)
      ∧ ((st true 0 0 w4 false false []).legal = true ∧ (st true 0 0 w4 false false []).selector.getLsbD 2 = true
        ∧ (st true 0 0 w4 false false []).selector.getLsbD 1 = true)
      ∧ ((v44 true).legal = true ∧ (v44 true).selector.getLsbD 7 = true)
      ∧ ((st false 28 0 w4 false false []).legal = true
        ∧ (st false 28 0 w4 false false []).selector.getLsbD 8 = false) := by decide

/-- O29: for every row a state that it covers is placed after reset, and START's covers no busy state. -/
theorem witness_TransitionsNeedTheirRow :
    (∀ r ∈ selRows, r.covers (State.reset.placeTransition r.transition).selector = true)
      ∧ ∀ r ∈ selRows, r.covers (st false 28 0 w4 false false []).selector = false := by decide

/-- O30: both sides hold (V60), and both fail (V58). -/
theorem witness_AcceptIsFrontAndValid :
    decodeSel (st true 0 0 w4 false false []).selector = some .accept ∧ validFrame w4 = true
      ∧ decodeSel (st true 0 0 (w58 0xF0) false false []).selector ≠ some .accept
      ∧ validFrame (w58 0xF0) = false := by decide

/-- O31: a use of the DEC port, and the FILL of V45. -/
theorem witness_StepRunsDecodedOperation :
    (({ v44 true with script := [.use (.dec w4), .rst] } : State).move = .use (.dec w4)
        ∧ decode (.port (.dec w4)) = .ok (.dec w4) ∧ (Instr.dec w4).wellFormed = true)
      ∧ ((v44 true).move = .sync false true ∧ (v44 true).legal = true
        ∧ decode (.sel (v44 true).selector) = .ok .fill ∧ Instr.fill.wellFormed = true) := by decide

/-- O32: the step function's branches are those of V40 to V61 above; here START's. -/
theorem witness_StepIsTheStepFunction :
    (st false 28 0 w4 true true []).move = .sync true true ∧ (st false 28 0 w4 true true []).legal = true := by decide

/-- O33: `rst` in the middle of a scan. -/
theorem witness_RstResetsFromAnyState : ({ v44 true with script := [.rst] } : State).move = .rst := by decide

/-- O35: idle, and a step that changes `BUSY` (V60). -/
theorem witness_BusyRule :
    ((st false 28 0 w4 false true [0x11]).legal = true ∧ (st false 28 0 w4 false true [0x11]).busy = false
        ∧ (st false 28 0 w4 false true [0x11]).startIn = false
        ∧ (st false 28 0 w4 false true [0x11]).move = .sync false true)
      ∧ next? (step (st true 0 0 w4 false false [])) (fun t => t.busy != true) = true := by decide

/-- O36, O39, O40: a Synchronizer step that is no `rst` and answers a next state: FILL, WAIT, ACCEPT, SKIP to 28. -/
theorem witness_steps_without_rst :
    ∀ s ∈ [v44 true, v44 false, st true 0 0 w4 false false [], st true 0 27 (win 0 []) false false []],
      s.move ≠ .rst ∧ next? (step s) (fun _ => true) = true := by decide

/-- O37: a legal state, with a well-formed ENC word as its move. -/
theorem witness_NoStepStops :
    ({ v44 true with script := [.use (.enc w4)] } : State).legal = true ∧ (PortWord.enc w4).wellFormed = true := by decide

/-- O38: `NEED` 1 with `CUR` 1, and idle with `NEED` 27. -/
theorem witness_IllegalStatesAreRefused :
    ((st true 1 1 w4 false false []).move = .sync false false ∧ (st true 1 1 w4 false false []).legal = false)
      ∧ (st false 27 0 w4 false false []).legal = false := by decide

/-- O41: busy; idle; scanning. -/
theorem witness_InputsAreSampledOnlyWhenUsed :
    (v44 true).busy = true ∧ (st false 28 0 w4 false true [0x11]).busy = false
      ∧ (st true 0 0 w4 false true [0x11]).need = 0 := by decide

/-- The byte `AA`, then `W4`, taken and accepted: the state after the ACCEPT. -/
def accepted : State :=
  { w := w4, cur := 0, need := 28, busy := false, rxsnap := s4, rx := [0x33], script := [], habit := [],
    given := 0xAA :: w4.toList, delivered := [⟨29, s4⟩], results := [], draws := 0 }

/-- The window of V49 just taken, the cursor past its first byte. -/
def scanning : State :=
  { w := w49, cur := 1, need := 0, busy := true, rxsnap := Snapshot.zero, rx := [], script := [], habit := [],
    given := w49.toList, delivered := [], results := [], draws := 0 }

theorem scanning_window : WindowInv scanning where
  legal := by decide
  mirror := { enough := by decide, bytes := by decide }

/-- O44, O45 (and the window part for O43) on a scan in progress. -/
theorem witness_scanning : SearchInv scanning where
  window := scanning_window
  order := by decide
  searched := by
    intro o _ h
    have h0 : o = 0 := by
      have h1 : o < 1 := h
      omega
    subst h0
    decide
  deliveries := trivial

/-- O45, O48, O50: a state whose one delivery is that of the frame after one byte of junk. -/
theorem witness_accepted : SearchInv accepted where
  window := { legal := by decide, mirror := { enough := by decide, bytes := by decide } }
  order := by decide
  searched := by
    intro o h1 h2
    have h3 : 29 ≤ o := h1
    have h4 : o < 29 := h2
    omega
  deliveries := by
    refine ⟨1, by decide, by decide, ?_, by decide, by decide, trivial⟩
    intro p _ h
    have h0 : p = 0 := by omega
    subst h0
    decide

/-- O43, O44, O45: the steps from there answer next states. -/
theorem witness_invariant_steps :
    next? (step scanning) (fun t => ctl t == (true, 0, 2)) = true
      ∧ next? (step accepted) (fun t => ctl t == (false, 28, 0)) = true := by decide

/-- O46: two states that differ in the five bytes a CUNAL(5) left behind. -/
theorem witness_StaleBytesAreNeverRead :
    AgreeOnValid (st true 5 0 w56 false true [0x11]) (st true 5 0 (w56.set 27 0xEE) false true [0x11]) where
  cur := rfl
  need := rfl
  busy := rfl
  rxsnap := rfl
  rx := rfl
  script := rfl
  habit := rfl
  given := rfl
  delivered := rfl
  results := rfl
  draws := rfl
  valid := by decide

theorem witness_stale_bytes_differ :
    (st true 5 0 w56 false true [0x11]).w ≠ (st true 5 0 (w56.set 27 0xEE) false true [0x11]).w := by decide

/-- O47. -/
theorem witness_ScanEndsWithin29Steps :
    scanning.legal = true ∧ scanning.busy = true ∧ scanning.need = 0
      ∧ ∀ m ∈ scanning.script ++ scanning.habit, ∃ start offer, m = Move.sync start offer := by
  refine ⟨by decide, rfl, rfl, ?_⟩
  intro m h
  cases h

/-- O48, with `witness_accepted`. -/
theorem witness_FirstDeliveryIsTheFirstFrame :
    accepted.given ++ accepted.rx = [0xAA] ++ w4.toList ++ [0x33] ∧ validFrame w4 = true
      ∧ (∀ o, o < [(0xAA : Byte)].length → matchesAt (accepted.given ++ accepted.rx) o = false)
      ∧ accepted.delivered = ⟨29, s4⟩ :: [] := by decide

/-- O49: three bytes of junk (P2 of 95_test_vectors.md). -/
theorem witness_EmbeddedFrameIsFound :
    validFrame w4 = true
      ∧ ∀ o, o < [(0xAA : Byte), 0xBB, 0xCC].length →
        matchesAt ([0xAA, 0xBB, 0xCC] ++ w4.toList ++ [0x33]) o = false := by decide

/-- O50, with `witness_accepted`. -/
theorem witness_ShiftRegisterAgrees : accepted.need ≠ 0 := by decide

/-- O51: three moves, a codec use among them, then bytes that go on arriving. -/
theorem witness_EveryRunDeliversFirstMatches :
    (∀ m ∈ [Move.sync true true, .use (.valid w4), .sync false true] ++ [.arrive [0x33]], m ≠ .rst)
      ∧ next? (Host.Core.run core 5
          { State.reset with
            rx := [0x01], script := [.sync true true, .use (.valid w4), .sync false true], habit := [.arrive [0x33]] })
        (fun t => t.given == [0x01] && t.rx == [0x33, 0x33]) = true
      ∧ arrivals 5
          { State.reset with
            rx := [0x01], script := [.sync true true, .use (.valid w4), .sync false true], habit := [.arrive [0x33]] }
        = [0x33, 0x33] := by decide

/-- O51, its inner premise: moves among which none is an arrival. -/
theorem witness_EveryRun_no_arrival :
    ∀ m ∈ [Move.sync true true, .use (.valid w4)] ++ [], m ≠ .arriveAny ∧ ∀ bytes, m ≠ .arrive bytes := by
  intro m h
  simp only [List.append_nil, List.mem_cons, List.not_mem_nil, or_false] at h
  rcases h with rfl | rfl <;> exact ⟨by simp, by simp⟩

/-- O56: a peer that sends 00 and 04 over and over; after START and one round a byte has been taken. -/
theorem witness_EndlessRunTakesBytesForEver :
    [(0x00 : Byte), 0x04] ≠ [] ∧ (∀ b ∈ [(0x00 : Byte), 0x04], b ≠ 0x01)
      ∧ next? (Host.Core.run core 3
          { State.reset with script := [.sync true false], habit := [.arrive [0x00, 0x04], .sync false true] })
        (fun t => t.given == [0x00] && t.rx == [0x04] && t.busy) = true := by decide

/-- The window of V44 with nobody moving any more. -/
def stopped : State := { v44 true with rx := [], script := [] }

/-- O57. -/
theorem witness_StoppedStreamWaitsForEver :
    stopped.legal = true ∧ stopped.busy = true ∧ stopped.need ≠ 0 ∧ stopped.rx = [] ∧ stopped.script = []
      ∧ stopped.habit = [] := by decide

/-- Bytes reach the transport: they wait behind those it holds, and nothing of the block moves (R214, R235). -/
theorem test_arrival :
    next? (step { v44 true with script := [.arrive [0x11, 0x22]] })
      (fun t => t.rx == [0x2E, 0x11, 0x22] && ctl t == (true, 18, 0) && t.given == []) = true := by decide

/-- One byte of a peer that may send anything. -/
theorem test_arrival_any :
    next? (step { v44 true with script := [.arriveAny] })
      (fun t => t.rx == [0x2E, Config.freeStream 0] && t.draws == 1) = true := by
  simp [step, State.fetch, State.move, State.queue, State.receive, State.arrived, next?, v44, st, State.popMove]

/-- O52, O53, O54: a word and its operation. -/
theorem witness_words :
    (Instr.enc s4 0x42).wellFormed = true ∧ decode (.port (.enc w4)) = .ok (.enc s4 0x42)
      ∧ (OpWord.port (.enc w4)).wellFormed = true ∧ (OpWord.sel 0b0011111111#10).wellFormed = false := by decide

end Sys2Proof.Tests
end

section
/-! SUPPORT. Scope (R17, R19): how the two counters change, and the two kinds of infinite run. -/

namespace Sys2Proof.Machine

/-! ## The counters (R17) -/

/-- The changes of the counters that R17 allows, for a Synchronizer step. -/
theorem SyncStep.counters {s u : State} (h : SyncStep s u) :
    (u.cur = s.cur ∨ (s.cur.val ≤ 27 ∧ u.cur.val = s.cur.val + 1) ∨ u.cur.val = 1 ∨ u.cur.val = 0)
    ∧ (u.need = s.need ∨ (1 ≤ s.need.val ∧ u.need.val = s.need.val - 1) ∨ u.need.val = 28
        ∨ (u.need = s.cur ∧ 1 ≤ s.cur.val ∧ s.cur.val ≤ 27)) := by
  cases h with
  | idle | start | wait => exact ⟨.inl rfl, .inl rfl⟩
  | fill b hb hn ho =>
    have hpos : 1 ≤ s.need.val := Nat.one_le_iff_ne_zero.mpr fun h => hn (Fin.ext h)
    exact ⟨.inl rfl, .inr (.inl ⟨hpos, rfl⟩)⟩
  | wreset => exact ⟨.inr (.inr (.inr rfl)), .inr (.inr (.inl rfl))⟩
  | skip hb hn hc h1 => exact ⟨.inr (.inl ⟨by omega, cursorNext_val hc⟩), .inl rfl⟩
  | nocomp hb hn hr h1 h2 => exact ⟨.inr (.inl ⟨by omega, cursorNext_val (by omega)⟩), .inl rfl⟩
  | cshort hb hn hc h1 hr =>
    exact ⟨.inr (.inr (.inr (by simp))), .inr (.inr (.inr ⟨by simp, by omega, by omega⟩))⟩
  | cunal hb hn hr h1 h2 h0 =>
    have hpos : 1 ≤ s.cur.val := Nat.one_le_iff_ne_zero.mpr fun h => h0 (Fin.ext h)
    exact ⟨.inr (.inr (.inr (by simp))), .inr (.inr (.inr ⟨by simp, hpos, by omega⟩))⟩
  | endfail => exact ⟨.inr (.inr (.inl rfl)), .inl rfl⟩
  | accept => exact ⟨.inr (.inr (.inr rfl)), .inr (.inr (.inl rfl))⟩

/-- Settles O36: only a Synchronizer step and `rst` write the counters. -/
theorem countersStayInStep : Obligations.CountersStayInStep := by
  unfold Obligations.CountersStayInStep
  intro s t h hrst
  obtain ⟨hm, -⟩ | ⟨w, i, r, -, -, -, rfl⟩ | ⟨a, o, u, -, -, hu, rfl⟩ | ⟨-, -, rfl⟩ := step_cases h
  · exact absurd hm hrst
  · exact ⟨.inl rfl, .inl rfl⟩
  · exact hu.counters
  · exact ⟨.inl rfl, .inl rfl⟩

/-- Nor does a Synchronizer step touch the moves that repeat. -/
theorem SyncStep.habit {s u : State} (h : SyncStep s u) : u.habit = s.habit := by
  cases h <;> simp

/-! ## Runs -/

/-- A run begins with its first step. -/
theorem run_succ_of_step {s t : State} (h : step s = .next t) (n : Nat) :
    Host.Core.run core (n + 1) s = Host.Core.run core n t := by
  have h' : core.step s = .next t := h
  simp only [Host.Core.run, h']

/-- Where a step leads back to the same state, every run stays there. -/
theorem run_of_step_self {s : State} (h : step s = .next s) (n : Nat) : Host.Core.run core n s = .next s := by
  induction n with
  | zero => rfl
  | succ n ih => rw [run_succ_of_step h, ih]

/-- Where every step from a state with `P` has a next state, again with `P` and of a higher rank, a run of
any length has a next state with `P`, whose rank has grown by at least that length. -/
theorem run_of_progress {P : State → Prop} {rank : State → Nat}
    (hstep : ∀ s, P s → ∃ t, step s = .next t ∧ P t ∧ rank s < rank t) (n : Nat) {s : State} (hs : P s) :
    ∃ t, Host.Core.run core n s = .next t ∧ P t ∧ rank s + n ≤ rank t := by
  induction n generalizing s with
  | zero => exact ⟨s, rfl, hs, le_rfl⟩
  | succ n ih =>
    obtain ⟨u, hu, hPu, hlt⟩ := hstep s hs
    obtain ⟨t, ht, hPt, hle⟩ := ih hPu
    exact ⟨t, by rw [run_succ_of_step hu, ht], hPt, by omega⟩

/-! ## Single steps by their guards -/

/-- R29 while an invocation runs: a byte is needed only with the cursor at the front. -/
theorem State.legal_of_busy {s : State} (hb : s.busy = true) : s.legal = true ↔ s.need = 0 ∨ s.cur = 0 := by
  simp [State.legal, hb]

/-- The transition that the selector vector picks fires: it is fetched, and it has its effect. -/
theorem step_of_selected {s t : State} {a o : Bool} {i : Instr} {m : String} (hm : s.move = .sync a o)
    (hl : s.legal = true) (hi : decodeSel s.selector = some i) (hx : exec i s = fire m i s t) :
    s.fetch = .op i ∧ step s = .next t.popMove := by
  have hf : s.fetch = .op i := by rw [State.fetch_sync hm hl, hi]
  exact ⟨hf, by rw [step_of_op hf, hx, fire_of_enabled (State.enabled_iff.mpr hi), finish_next]⟩

/-- START (R145): `start` is 1 and no invocation runs. -/
theorem step_start {s : State} {o : Bool} (hm : s.move = .sync true o) (hl : s.legal = true)
    (hb : s.busy = false) : s.fetch = .op .start ∧ step s = .next (s.setBusy true).popMove := by
  have hi : decodeSel s.selector = some .start := by simp [decodeSel_selector, hb, State.startIn, hm]
  exact step_of_selected hm hl hi rfl

/-- WAIT (R147): a byte is needed and none is offered. -/
theorem step_wait {s : State} {a o : Bool} (hm : s.move = .sync a o) (hl : s.legal = true)
    (hb : s.busy = true) (hn : s.need ≠ 0) (ho : s.offered = none) :
    s.fetch = .op .wait ∧ step s = .next s.popMove := by
  have hi : decodeSel s.selector = some .wait := by simp [decodeSel_selector, hb, hn, ho]
  exact step_of_selected hm hl hi rfl

/-- Bytes that reach the transport always can (R214). -/
theorem step_arrive {s : State} {bytes : List Byte} (hm : s.move = .arrive bytes) :
    step s = .next s.receive.popMove := by
  simp [step, State.fetch, hm]

/-! ## Stuck in WAIT (R203) -/

/-- With no move left, the move made is the default, and nothing is popped. -/
theorem State.popMove_eq_self {s : State} (hs : s.script = []) (hh : s.habit = []) : s.popMove = s := by
  have hq : s.queue.tail = s.script := by rw [State.queue_nil hs, hh, hs, List.tail_nil]
  simp [State.popMove, hq]

/-- Settles O57: WAIT changes nothing, and no move is left that could be popped, so the step leads back to
the same state. -/
theorem stoppedStreamWaitsForEver : Obligations.StoppedStreamWaitsForEver := by
  unfold Obligations.StoppedStreamWaitsForEver
  intro s hl hb hn hrx hs hh
  have hm := State.move_nil hs hh
  have ho : s.offered = none := by simp [State.offered, hm, hrx]
  obtain ⟨hfetch, hstep⟩ := step_wait hm hl hb hn ho
  rw [State.popMove_eq_self hs hh] at hstep
  exact ⟨hfetch, by simp [State.busyOut, State.rstIn, hm, hb], by simp [State.rxReady, State.rstIn, hm, hb, hn],
    run_of_step_self hstep⟩

/-! ## Taking bytes for ever (R19) -/

/-- An invocation runs, nothing has been delivered, and no start marker is in sight: neither among the
valid bytes of the window nor among those the transport holds. -/
structure NoMarker (s : State) : Prop where
  busy : s.busy = true
  ready : s.need = 0 ∨ s.cur = 0
  delivered : s.delivered = []
  window : ∀ (j : Nat) (h : j < 28), j < 28 - s.need.val → s.w[j] ≠ Config.soh
  stream : ∀ b ∈ s.rx, b ≠ Config.soh

/-- A measure that each of FILL, SKIP and WRESET raises: a byte taken weighs 3 and costs 2 in `NEED`; the
28 positions scanned pay for the 28 bytes that WRESET asks for. -/
def effort (s : State) : Nat := 3 * s.given.length + s.cur.val + 2 * s.need.val

/-- The counters are at most 28, so the effort is high only where many bytes have been taken. -/
theorem effort_le (s : State) : effort s ≤ 3 * s.given.length + 84 := by
  have := s.cur.isLt
  have := s.need.isLt
  unfold effort
  omega

/-- While no marker is in sight and a byte is offered when one is needed, a Synchronizer step is FILL, SKIP
or WRESET: still no marker is in sight, and the effort grows. -/
theorem NoMarker.syncStep {s u : State} (h : NoMarker s) (ho : s.offered ≠ none) (hu : SyncStep s u) :
    NoMarker u ∧ effort s < effort u := by
  obtain ⟨hbusy, hready, hdel, hwin, hrx⟩ := h
  have noSoh (hn : s.need = 0) (hc : s.cur.val < 28) : s.w[s.cur.val] ≠ 0x01 :=
    hwin s.cur.val hc (by simpa [hn] using hc)
  cases hu with
  | idle hb | start hb => simp [hbusy] at hb
  | wait _ _ h0 => exact absurd h0 ho
  | fill b _ hn hb =>
    obtain ⟨_, l, -, hl⟩ := State.offered_eq_some hb
    have hne : s.need.val ≠ 0 := fun h => hn (Fin.ext h)
    have hlt := s.need.isLt
    have hb1 : b ≠ Config.soh := hrx b (by simp [hl])
    refine ⟨⟨hbusy, .inr (hready.resolve_left hn), hdel, ?_, ?_⟩, ?_⟩
    · intro j hj hjn
      rw [State.takeByte_need, needPred_val] at hjn
      by_cases hnew : 28 - s.need.val = j
      · simpa [Vector.getElem_setIfInBounds, hnew] using hb1
      · simpa [Vector.getElem_setIfInBounds, hnew] using hwin j hj (by omega)
    · exact fun c hc => hrx c (List.mem_of_mem_tail hc)
    · simp only [effort, State.takeByte_given, State.takeByte_cur, State.takeByte_need, needPred_val,
        List.length_append, List.length_singleton]
      omega
  | wreset _ hn hc =>
    exact ⟨⟨hbusy, .inr rfl, hdel, by simp, hrx⟩, by simp [effort, hn, hc]⟩
  | skip _ hn hc _ =>
    exact ⟨⟨hbusy, .inl hn, hdel, hwin, hrx⟩, by simp [effort, cursorNext_val hc]⟩
  | cshort _ hn hc h1 _ => exact absurd h1 (noSoh hn hc)
  | nocomp _ hn _ h1 _ => exact absurd h1 (noSoh hn (by omega))
  | cunal _ hn _ h1 _ _ => exact absurd h1 (noSoh hn (by omega))
  | endfail _ hn h0 h1 _ _ => exact absurd (by simpa [h0] using h1) (noSoh hn (by simp [h0]))
  | accept _ hn h0 h1 _ _ _ => exact absurd (by simpa [h0] using h1) (noSoh hn (by simp [h0]))

/-- The state of the run of R19 after START: the peer sends `bytes` and the Synchronizer steps, in turn. -/
structure Endless (bytes : List Byte) (s : State) : Prop where
  noMarker : NoMarker s
  habit : s.habit = [.arrive bytes, .sync false true]
  turn : s.script = [] ∨ (s.script = [.sync false true] ∧ s.rx ≠ [])

/-- The effort of the run of R19, an arrival counted until its Synchronizer step. -/
def endlessRank (s : State) : Nat := 2 * effort s + s.script.length

/-- The rank, too, is high only where many bytes have been taken: at most one move is listed. -/
theorem Endless.rank_le {bytes : List Byte} {s : State} (h : Endless bytes s) :
    endlessRank s ≤ 6 * s.given.length + 169 := by
  have hscript : s.script.length ≤ 1 := by
    obtain hs | ⟨hs, -⟩ := h.turn <;> simp [hs]
  have := effort_le s
  unfold endlessRank
  omega

/-- Each of the two moves in turn has a next state and raises the rank. -/
theorem Endless.progress {bytes : List Byte} (hne : bytes ≠ []) (hb : ∀ b ∈ bytes, b ≠ 0x01) (s : State)
    (h : Endless bytes s) : ∃ t, step s = .next t ∧ Endless bytes t ∧ endlessRank s < endlessRank t := by
  obtain ⟨hno, hh, hs | ⟨hs, hrx⟩⟩ := h
  · have hq : s.queue = [.arrive bytes, .sync false true] := by rw [State.queue_nil hs, hh]
    have hm : s.move = .arrive bytes := by simp [State.move, hq]
    have ha : s.arrived = bytes := by simp [State.arrived, hm]
    have hstream : ∀ b ∈ s.rx ++ s.arrived, b ≠ Config.soh := by
      rw [ha]
      exact fun b hmem => (List.mem_append.mp hmem).elim (hno.stream b) (hb b)
    refine ⟨_, step_arrive hm, ⟨⟨hno.busy, hno.ready, hno.delivered, hno.window, hstream⟩, hh, ?_⟩, ?_⟩
    · exact .inr ⟨by simp [hq], by simp [ha, hne]⟩
    · simp [endlessRank, effort, hq, hs]
  · have hm := State.move_cons hs
    have ho : s.offered ≠ none := by simpa [State.offered, hm] using hrx
    obtain ⟨u, hu, hstep⟩ := step_sync hm ((State.legal_of_busy hno.busy).mpr hno.ready)
    obtain ⟨hnou, hlt⟩ := hno.syncStep ho hu
    have hq : u.queue = [.sync false true] := by rw [hu.queue, State.queue_cons hs]
    refine ⟨_, hstep, ⟨⟨hnou.busy, hnou.ready, hnou.delivered, hnou.window, hnou.stream⟩, ?_, ?_⟩, ?_⟩
    · rw [State.popMove_habit, hu.habit, hh]
    · exact .inl (by simp [hq])
    · have heff : effort u.popMove = effort u := rfl
      simp only [endlessRank, heff, hs, State.popMove_script, hq, List.tail_cons, List.length_nil,
        List.length_singleton]
      omega

/-- START leads from the first state of the run of R19 into it. -/
theorem endless_after_start (bytes : List Byte) {s : State}
    (hs : s = { State.reset with script := [.sync true false], habit := [.arrive bytes, .sync false true] }) :
    ∃ t, step s = .next t ∧ Endless bytes t := by
  have hm : s.move = .sync true false := State.move_cons (by rw [hs])
  obtain ⟨-, hstep⟩ := step_start hm (by rw [hs]; rfl) (by rw [hs]; rfl)
  subst hs
  exact ⟨_, hstep, ⟨rfl, .inr rfl, rfl, by simp [State.reset], by simp [State.reset]⟩, rfl, .inl rfl⟩

/-- Settles O56: after START each step raises the rank, which only the bytes taken can raise for ever. -/
theorem endlessRunTakesBytesForEver : Obligations.EndlessRunTakesBytesForEver := by
  unfold Obligations.EndlessRunTakesBytesForEver
  intro bytes hne hb s hs
  obtain ⟨s₁, hstart, hend⟩ := endless_after_start bytes hs
  have later (n : Nat) : ∃ t, Host.Core.run core (n + 1) s = .next t ∧ Endless bytes t ∧ n ≤ endlessRank t := by
    obtain ⟨t, ht, hEt, hle⟩ := run_of_progress (Endless.progress hne hb) n hend
    exact ⟨t, by rw [run_succ_of_step hstart, ht], hEt, by omega⟩
  refine ⟨fun n => ?_, fun N => ?_⟩
  · cases n with
    | zero => exact ⟨s, rfl, by rw [hs]; rfl⟩
    | succ n =>
      obtain ⟨t, ht, hEt, -⟩ := later n
      exact ⟨t, ht, hEt.noMarker.delivered⟩
  · obtain ⟨t, ht, hEt, hle⟩ := later (6 * N + 169)
    refine ⟨_, t, ht, ?_, hEt.noMarker.busy⟩
    have hrank : endlessRank t ≤ 6 * t.given.length + 169 := hEt.rank_le
    omega

end Sys2Proof.Machine
end

section
/-! SUPPORT. The state (R20 to R40): steps of an idle block, what each kind of step does to `BUSY`, to the
stream, to the deliveries and to the invariants of R29, and that dead window bytes are never read (R24). -/

namespace Sys2Proof.Machine

/-! ## Single steps by their moves and guards -/

/-- R29 while no invocation runs: a whole window is needed, the cursor at the front. -/
theorem State.legal_of_idle {s : State} (hb : s.busy = false) : s.legal = true ↔ s.need = 28 ∧ s.cur = 0 := by
  simp +contextual [State.legal, hb]

/-- Looked at in a Synchronizer step, `start` has the level that the move gives it. -/
theorem State.startIn_sync {s : State} {a o : Bool} (hm : s.move = .sync a o) : s.startIn = a := by
  simp [State.startIn, hm]

/-- In a step that is not the Synchronizer's, no byte is offered. -/
theorem State.offered_eq_none {s : State} (hm : ∀ a o, s.move ≠ .sync a o) : s.offered = none := by
  cases ho : s.offered with
  | none => rfl
  | some b =>
    obtain ⟨a, -, hsync, -⟩ := State.offered_eq_some ho
    exact absurd hsync (hm a true)

/-- The idle row of R91: no invocation runs and `start` is 0. -/
theorem State.fetch_idle {s : State} {a o : Bool} (hm : s.move = .sync a o) (hl : s.legal = true)
    (hb : s.busy = false) (hg : s.startIn = false) : s.fetch = .idle := by
  have hi : decodeSel s.selector = none := by simp [decodeSel_selector, hb, hg]
  rw [State.fetch_sync hm hl, hi]

/-- On the idle row nothing happens but that the move has been made. -/
theorem step_idle {s : State} {a o : Bool} (hm : s.move = .sync a o) (hl : s.legal = true)
    (hb : s.busy = false) (hg : s.startIn = false) : step s = .next s.popMove := by
  simp only [step, State.fetch_idle hm hl hb hg]

/-- FILL (R148): a byte is needed and one is offered. -/
theorem step_fill {s : State} {a o : Bool} {b : Byte} (hm : s.move = .sync a o) (hl : s.legal = true)
    (hb : s.busy = true) (hn : s.need ≠ 0) (ho : s.offered = some b) :
    s.fetch = .op .fill ∧ step s = .next (s.takeByte b).popMove := by
  have hi : decodeSel s.selector = some .fill := by simp [decodeSel_selector, hb, hn, ho]
  exact step_of_selected (m := "FILL") hm hl hi (by simp [exec, execFill, ho])

/-- `rst` can be asserted in every state (R230). -/
theorem step_rst {s : State} (hm : s.move = .rst) : step s = .next s.resetBlock.popMove := by
  simp [step, State.fetch, hm]

/-- A byte from a peer that may send anything reaches the transport in every state (R214). -/
theorem step_arriveAny {s : State} (hm : s.move = .arriveAny) : step s = .next s.receive.popMove := by
  simp [step, State.fetch, hm]

/-- A use of a function's ports runs the operation of a word that decodes. -/
theorem step_of_decodePort {s : State} {w : PortWord} {i : Instr} (hm : s.move = .use w)
    (hd : decodePort w = .ok i) : step s = finish (exec i s) :=
  step_of_op (by simp [State.fetch, hm, hd])

/-- A use of a function's ports is refused where the word does not decode (log 10). -/
theorem step_undecodable {s : State} {w : PortWord} {e : DecodeError} (hm : s.move = .use w)
    (hd : decodePort w = .error e) : step s = .refused (.undecodable e) := by
  simp [step, State.fetch, hm, hd]

/-! ## Reset (R40) -/

/-- Settles O34: the move after reset is a Synchronizer step on the idle row. -/
theorem resetValues : Obligations.ResetValues := by
  unfold Obligations.ResetValues
  have hm : State.reset.move = .sync false true := State.move_nil rfl rfl
  have hf : State.reset.fetch = .idle := State.fetch_idle hm rfl rfl (State.startIn_sync hm)
  have hsnap : State.reset.snapValid = false := by simp [State.snapValid, hf]
  have hbusy : State.reset.busy = false := rfl
  exact ⟨hbusy, rfl, rfl, by simp [State.busyOut, hbusy], by simp [State.rxReady, hbusy], hsnap⟩

/-- Settles O42: at reset no window byte is valid, no position has been searched and nothing is delivered. -/
theorem resetMeetsTheInvariants : Obligations.ResetMeetsTheInvariants where
  window :=
    { legal := rfl
      mirror := { enough := le_rfl, bytes := fun _ hj => absurd hj (Nat.not_lt_zero _) } }
  order := le_rfl
  searched := fun _ _ ho => absurd ho (Nat.not_lt_zero _)
  deliveries := trivial

/-! ## The invariants of the control registers (R29) -/

/-- Settles O38: the test of R29 stands before the selection. -/
theorem illegalStatesAreRefused : Obligations.IllegalStatesAreRefused := by
  unfold Obligations.IllegalStatesAreRefused
  intro s start offer hm hl
  have hf : s.fetch = .stop .outsideInvariants := by simp [State.fetch, hm, hl]
  simp only [step, hf]

/-- A Synchronizer step keeps R29: bytes are asked for only with the cursor at the front, and an invocation
ends with a whole window to fetch. -/
theorem SyncStep.legal {s u : State} (h : SyncStep s u) (hl : s.legal = true) : u.legal = true := by
  have running {v : State} (hb : v.busy = true) (hv : v.need = 0 ∨ v.cur = 0) : v.legal = true :=
    (State.legal_of_busy hb).mpr hv
  cases h with
  | idle | wait => exact hl
  | start hb => exact running rfl (.inr ((State.legal_of_idle hb).mp hl).2)
  | fill b hb hn => exact running hb (.inr (((State.legal_of_busy hb).mp hl).resolve_left hn))
  | wreset hb => exact running hb (.inr rfl)
  | skip hb hn | nocomp hb hn | endfail hb hn => exact running hb (.inl hn)
  | cshort hb | cunal hb => exact running (by simpa using hb) (.inr (by simp))
  | accept => exact (State.legal_of_idle rfl).mpr ⟨rfl, rfl⟩

/-- Settles O43: beside the Synchronizer only `rst` writes the control registers. -/
theorem stepKeepsTheControlInvariant : Obligations.StepKeepsTheControlInvariant := by
  unfold Obligations.StepKeepsTheControlInvariant
  intro s t hl h
  obtain ⟨-, rfl⟩ | ⟨w, i, r, -, -, -, rfl⟩ | ⟨a, o, u, -, -, hu, rfl⟩ | ⟨-, -, rfl⟩ := step_cases h
  · exact (State.legal_of_idle (by simp)).mpr ⟨by simp, by simp⟩
  · exact hl
  · exact hu.legal hl
  · exact hl

/-! ## BUSY (R28) -/

/-- Only START and ACCEPT change `BUSY` in a Synchronizer step. -/
theorem SyncStep.busy_changed {s u : State} (h : SyncStep s u) (hne : u.busy ≠ s.busy) :
    (s.fetch = .op .start ∧ u.busy = true) ∨ (s.fetch = .op .accept ∧ u.busy = false) := by
  cases h with
  | start _ _ hf => exact .inl ⟨hf, rfl⟩
  | accept _ _ _ _ _ _ hf => exact .inr ⟨hf, rfl⟩
  | _ => exact absurd (by simp) hne

/-- Settles O35: the idle row changes nothing, and of the steps that answer only `rst`, START and ACCEPT write
`BUSY`. -/
theorem busyRule : Obligations.BusyRule := by
  unfold Obligations.BusyRule
  refine ⟨fun s hl hb hg start offer hm => step_idle hm hl hb hg, fun s t h hne => ?_, fun s hm => ?_⟩
  · obtain ⟨hm, rfl⟩ | ⟨w, i, r, -, -, -, rfl⟩ | ⟨a, o, u, -, -, hu, rfl⟩ | ⟨-, -, rfl⟩ := step_cases h
    · exact .inl ⟨hm, by simp⟩
    · exact absurd rfl hne
    · exact .inr (hu.busy_changed hne)
    · exact absurd rfl hne
  · simp [State.busyOut, State.rstIn, hm]

/-! ## The handshake (R37) -/

/-- But for `rst`, the block is ready for a byte while an invocation runs and a byte is needed (R36). -/
theorem State.rxReady_iff {s : State} (hm : s.move ≠ .rst) :
    s.rxReady = true ↔ s.busy = true ∧ s.need ≠ 0 := by
  simp [State.rxReady, State.rstIn, hm]

/-- In a Synchronizer step FILL takes the offered byte, and the other cases take none, the block not being ready
or no byte being offered. -/
theorem SyncStep.handshake {s u : State} (h : SyncStep s u) (hm : s.move ≠ .rst) :
    (∃ b, s.rxReady = true ∧ s.offered = some b ∧ u.given = s.given ++ [b] ∧ s.rx = b :: u.rx)
    ∨ ((s.rxReady = false ∨ s.offered = none) ∧ u.given = s.given ∧ u.rx = s.rx) := by
  have idle (hb : s.busy = false) : s.rxReady = false := by simp [State.rxReady, hb]
  have scanning (hn : s.need = 0) : s.rxReady = false := by simp [State.rxReady, hn]
  cases h with
  | idle hb | start hb => exact .inr ⟨.inl (idle hb), rfl, rfl⟩
  | wait _ _ ho => exact .inr ⟨.inr ho, rfl, rfl⟩
  | fill b hb hn ho =>
    obtain ⟨_, l, -, hl⟩ := State.offered_eq_some ho
    exact .inl ⟨b, (State.rxReady_iff hm).mpr ⟨hb, hn⟩, ho, rfl, by simp [hl]⟩
  | wreset _ hn | skip _ hn | cshort _ hn | nocomp _ hn | cunal _ hn | endfail _ hn | accept _ hn =>
    exact .inr ⟨.inl (scanning hn), by simp, by simp⟩

/-- Settles O39: outside a Synchronizer step no byte is offered, and outside an arrival none arrives. -/
theorem bytesPassOnTheHandshake : Obligations.BytesPassOnTheHandshake := by
  unfold Obligations.BytesPassOnTheHandshake
  intro s t h hrst
  obtain ⟨hm, -⟩ | ⟨w, i, r, hm, -, -, rfl⟩ | ⟨a, o, u, hm, -, hu, rfl⟩ | ⟨-, hm, rfl⟩ := step_cases h
  · exact absurd hm hrst
  · have ho : s.offered = none := State.offered_eq_none (by simp [hm])
    exact .inr ⟨.inr ho, rfl, by simp [State.arrived_use hm]⟩
  · simpa [State.arrived_sync hm] using hu.handshake hrst
  · exact .inr ⟨.inr (State.offered_eq_none hm), rfl, rfl⟩

/-! ## The deliveries (R35, R36) -/

/-- `snap_valid` is 1 exactly in a step that runs ACCEPT (R36, R205). -/
theorem State.snapValid_iff {s : State} : s.snapValid = true ↔ s.fetch = .op .accept := by
  simp [State.snapValid]

/-- A step that runs ACCEPT and answers makes the five assignments of R155. -/
theorem step_accept {s t : State} (hf : s.fetch = .op .accept) (h : step s = .next t) :
    t = (s.acceptFrame (decFrame s.w)).popMove := by
  rw [step_of_op hf] at h
  obtain ⟨u, hu, rfl⟩ := finish_eq_next.mp h
  obtain ⟨-, rfl⟩ := fire_eq_next.mp (show execAccept s = .next u from hu)
  rfl

/-- A Synchronizer step other than ACCEPT writes neither `RXSNAP` nor the record of deliveries. -/
theorem SyncStep.delivers_nothing {s u : State} (h : SyncStep s u) (hf : s.fetch ≠ .op .accept) :
    u.rxsnap = s.rxsnap ∧ u.delivered = s.delivered := by
  cases h with
  | accept _ _ _ _ _ _ hacc => exact absurd hacc hf
  | _ => simp

/-- Settles O40: where `snap_valid` is 1 the step is ACCEPT, and no other step but `rst` writes `RXSNAP` or the
deliveries. -/
theorem onlyAcceptDelivers : Obligations.OnlyAcceptDelivers := by
  unfold Obligations.OnlyAcceptDelivers
  intro s t h hrst
  by_cases hf : s.fetch = .op .accept
  · obtain rfl := step_accept hf h
    exact .inl ⟨State.snapValid_iff.mpr hf, rfl, rfl, rfl, rfl⟩
  · refine .inr ⟨Bool.eq_false_iff.mpr fun hv => hf (State.snapValid_iff.mp hv), ?_⟩
    obtain ⟨hm, -⟩ | ⟨w, i, r, -, -, -, rfl⟩ | ⟨a, o, u, -, -, hu, rfl⟩ | ⟨-, -, rfl⟩ := step_cases h
    · exact absurd hm hrst
    · exact ⟨rfl, rfl⟩
    · exact hu.delivers_nothing hf
    · exact ⟨rfl, rfl⟩

/-! ## The functions do not look at the block (R38) -/

/-- An ENC word decodes to ENC alone. -/
theorem decodePort_enc {f : Frame} {i : Instr} (h : decodePort (.enc f) = .ok i) : i = .enc (unpackFrame f) f[1] := by
  simp only [decodePort] at h
  split_ifs at h
  cases h
  rfl

/-- What a function's port shows depends on its operands alone: it is the same in every state. -/
theorem exec_of_decodePort_uniform {w : PortWord} {i : Instr} (h : decodePort w = .ok i) :
    ∃ r, ∀ s, exec i s = .next (s.pushResult r) := by
  cases w with
  | enc f =>
    obtain rfl := decodePort_enc h
    exact ⟨_, fun _ => rfl⟩
  | setd o x =>
    cases h
    exact ⟨.sdResult (setDigital .unchanged 0 x (setdPin o) (setdState o)), fun _ => rfl⟩
  | valid f | dec f | getd o x | seta o x => cases h; exact ⟨_, fun _ => rfl⟩

end Sys2Proof.Machine

namespace Sys2Proof.Safety

open Sys2Proof.Machine

/-! ## Dead bytes are never read (R24)

A byte is dead only while `NEED` is not 0, and then a step reads no window byte at all; while the window is
scanned `NEED` is 0 and every byte is valid. -/

theorem AgreeOnValid.refl (s : State) : AgreeOnValid s s where
  cur := rfl
  need := rfl
  busy := rfl
  rxsnap := rfl
  rx := rfl
  script := rfl
  habit := rfl
  given := rfl
  delivered := rfl
  results := rfl
  draws := rfl
  valid := fun _ _ => rfl

theorem sameOutcome_refl (o : Host.Outcome State Fault Refusal) : sameOutcome o o := by
  cases o with
  | next s => exact AgreeOnValid.refl s
  | fault r => cases r
  | refused r => exact rfl

section
variable {s t : State} (h : AgreeOnValid s t)
include h

/-- While the window is scanned every byte is valid, so the two states are one. -/
theorem AgreeOnValid.eq_of_need_zero (hn : s.need = 0) : s = t := by
  have hw : s.w = t.w := Vector.ext fun j hj => h.valid ⟨j, hj⟩ (by simpa [hn] using hj)
  obtain ⟨hcur, hneed, hbusy, hsnap, hrx, hscript, hhabit, hgiven, hdel, hres, hdraws, -⟩ := h
  cases s; cases t
  simp_all

/-! The two states have the same moves and inputs, and the same standing under R29. -/

theorem AgreeOnValid.queue : s.queue = t.queue := by
  simp only [State.queue, h.script, h.habit]

theorem AgreeOnValid.move : s.move = t.move := by
  simp only [State.move, h.queue]

theorem AgreeOnValid.startIn : s.startIn = t.startIn := by
  simp only [State.startIn, h.move]

theorem AgreeOnValid.offered : s.offered = t.offered := by
  simp only [State.offered, h.move, h.rx]

theorem AgreeOnValid.arrived : s.arrived = t.arrived := by
  simp only [State.arrived, h.move, h.draws]

theorem AgreeOnValid.legal : s.legal = t.legal := by
  simp only [State.legal, h.need, h.cur, h.busy]

/-! The operations that need no scanned window keep the agreement. -/

theorem AgreeOnValid.popMove : AgreeOnValid s.popMove t.popMove :=
  { h with script := congrArg List.tail h.queue }

theorem AgreeOnValid.setBusy (b : Bool) : AgreeOnValid (s.setBusy b) (t.setBusy b) :=
  { h with busy := rfl }

theorem AgreeOnValid.pushResult (r : PortResult) : AgreeOnValid (s.pushResult r) (t.pushResult r) :=
  { h with results := congrArg (· ++ [r]) h.results }

theorem AgreeOnValid.receive : AgreeOnValid s.receive t.receive :=
  { h with
    rx := congrArg₂ (· ++ ·) h.rx h.arrived
    draws := congrArg (· + 1) h.draws }

/-- FILL makes one more byte valid, and writes the same byte in both. -/
theorem AgreeOnValid.takeByte (b : Byte) : AgreeOnValid (s.takeByte b) (t.takeByte b) :=
  { h with
    need := congrArg needPred h.need
    rx := congrArg List.tail h.rx
    given := congrArg (· ++ [b]) h.given
    valid := fun j hj => by
      simp only [State.takeByte_need, needPred_val] at hj
      by_cases hnew : 28 - s.need.val = j.val
      · simp [← h.need, hnew]
      · have hold : s.w[j] = t.w[j] := h.valid j (by omega)
        simpa [← h.need, Vector.getElem_setIfInBounds, hnew] using hold }

/-- Reset draws the same free window in both. -/
theorem AgreeOnValid.resetBlock : AgreeOnValid s.resetBlock t.resetBlock where
  cur := by simp
  need := by simp
  busy := by simp
  rxsnap := by simp [h.draws]
  rx := by simp [h.rx]
  script := by simp [h.script]
  habit := by simp [h.habit]
  given := by simp
  delivered := by simp
  results := by simp [h.results]
  draws := by simp [h.draws]
  valid := by simp [h.draws]

/-! ## Each kind of step keeps the agreement -/

/-- A Synchronizer step: with `NEED` 0 the states are one; else it is idle, START, WAIT or FILL. -/
theorem AgreeOnValid.sameOutcome_sync {a o : Bool} (hm : s.move = .sync a o) : sameOutcome (step s) (step t) := by
  have hmt : t.move = .sync a o := h.move ▸ hm
  by_cases hl : s.legal = true
  · have hlt : t.legal = true := h.legal ▸ hl
    by_cases hn : s.need = 0
    · rw [h.eq_of_need_zero hn]
      exact sameOutcome_refl _
    · have hnt : t.need ≠ 0 := h.need ▸ hn
      obtain ⟨u, hu, hs⟩ := step_sync hm hl
      cases hu with
      | idle hb hg =>
        rw [hs, step_idle hmt hlt (h.busy ▸ hb) (h.startIn ▸ hg)]
        exact h.popMove
      | start hb hg =>
        obtain rfl : a = true := by rw [← State.startIn_sync hm, hg]
        rw [hs, (step_start hmt hlt (h.busy ▸ hb)).2]
        exact (h.setBusy true).popMove
      | wait hb _ ho =>
        rw [hs, (step_wait hmt hlt (h.busy ▸ hb) hnt (h.offered ▸ ho)).2]
        exact h.popMove
      | fill b hb _ ho =>
        rw [hs, (step_fill hmt hlt (h.busy ▸ hb) hnt (h.offered ▸ ho)).2]
        exact (h.takeByte b).popMove
      | wreset _ h0 | skip _ h0 | cshort _ h0 | nocomp _ h0 | cunal _ h0 | endfail _ h0 | accept _ h0 =>
        exact absurd h0 hn
  · have hl' : s.legal = false := by simpa using hl
    rw [illegalStatesAreRefused s a o hm hl', illegalStatesAreRefused t a o hmt (h.legal ▸ hl')]
    exact sameOutcome_refl _

/-- A function on its ports answers the same in both, or the same word is refused. -/
theorem AgreeOnValid.sameOutcome_use {w : PortWord} (hm : s.move = .use w) : sameOutcome (step s) (step t) := by
  have hmt : t.move = .use w := h.move ▸ hm
  cases hd : decodePort w with
  | ok i =>
    obtain ⟨r, hr⟩ := exec_of_decodePort_uniform hd
    rw [step_of_decodePort hm hd, step_of_decodePort hmt hd, hr, hr]
    exact (h.pushResult r).popMove
  | error e =>
    rw [step_undecodable hm hd, step_undecodable hmt hd]
    exact sameOutcome_refl _

end

/-- Settles O46: only a Synchronizer step could read the window, and reset gives both states the same one. -/
theorem staleBytesAreNeverRead : Obligations.StaleBytesAreNeverRead := by
  unfold Obligations.StaleBytesAreNeverRead
  intro s t h
  have hmove := h.move
  cases hm : s.move with
  | sync a o => exact h.sameOutcome_sync hm
  | use w => exact h.sameOutcome_use hm
  | rst =>
    rw [step_rst hm, step_rst (hmove ▸ hm)]
    exact h.resetBlock.popMove
  | arrive bytes =>
    rw [step_arrive hm, step_arrive (hmove ▸ hm)]
    exact h.receive.popMove
  | arriveAny =>
    rw [step_arriveAny hm, step_arriveAny (hmove ▸ hm)]
    exact h.receive.popMove

end Sys2Proof.Safety
end

section
/-! SUPPORT. Memory (R13, R50, R51): a big-endian read as the field assembled from its bytes, and the Snapshot read
back from the frame that ENC makes of it. -/

namespace Sys2Proof.Machine

/-- At an offset of the buffer a byte read is the byte there (R13). -/
theorem byteAt_eq_getElem (b : Frame) {j : Nat} (hj : j < 28) : byteAt b j = b[j] := by
  simp [byteAt, hj]

/-- The big-endian read of one byte is that byte. -/
theorem readBE_one (b : Frame) (a : Nat) : readBE b a 1 = byteAt b a :=
  BitVec.zero_width_append 0#0 (byteAt b a)

/-- The big-endian read of two bytes is the 16-bit field they assemble to (R13, R50). -/
theorem readBE_two (b : Frame) {a : Nat} (ha : a + 1 < 28) : readBE b a 2 = cat2 b[a] b[a + 1] := by
  rw [readBE, readBE_one, byteAt_eq_getElem b (by omega : a < 28), byteAt_eq_getElem b ha]
  rfl

/-- The big-endian read of four bytes is the 32-bit field they assemble to (R13, R50). -/
theorem readBE_four (b : Frame) {a : Nat} (ha : a + 3 < 28) :
    readBE b a 4 = cat4 b[a] b[a + 1] b[a + 2] b[a + 3] := by
  rw [readBE, readBE, readBE_two b (by omega : a + 1 < 28), byteAt_eq_getElem b (by omega : a + 2 < 28),
    byteAt_eq_getElem b ha]
  rfl

/-- DEC reads back every field that ENC laid out. -/
@[simp] theorem decFrame_encFrame (S : Snapshot) (P : Byte) : decFrame (encFrame S P) = S := by
  obtain ⟨digital, analog, flag, auxA, auxB⟩ := S
  have hanalog : #v[analog[0], analog[1], analog[2], analog[3]] = analog :=
    Vector.ext fun i hi => by interval_cases i <;> rfl
  have haux (v : Vector Byte 5) : #v[v[0], v[1], v[2], v[3], v[4]] = v :=
    Vector.ext fun i hi => by interval_cases i <;> rfl
  simp [decFrame, encFrame, unpackFrame, packFrame, hanalog, haux]

/-- The multi-byte fields that DEC shows are the big-endian reads at their offsets, the channels descending
(R50, R51). -/
theorem decFrame_fields (B : Frame) :
    (decFrame B).digitalIo = readBE B 4 4
    ∧ (decFrame B).analogIo[3] = readBE B 8 2 ∧ (decFrame B).analogIo[2] = readBE B 10 2
    ∧ (decFrame B).analogIo[1] = readBE B 12 2 ∧ (decFrame B).analogIo[0] = readBE B 14 2 := by
  rw [readBE_four B (by omega), readBE_two B (by omega), readBE_two B (by omega), readBE_two B (by omega),
    readBE_two B (by omega)]
  exact ⟨rfl, rfl, rfl, rfl, rfl⟩

/-- Settles O6: DEC's fields are the reads, and DEC of an encoded frame is the Snapshot that was encoded. -/
theorem multiByteFieldsAreBigEndian : Obligations.MultiByteFieldsAreBigEndian := by
  unfold Obligations.MultiByteFieldsAreBigEndian
  refine ⟨decFrame_fields, fun S P => ?_⟩
  obtain ⟨hdigital, h3, h2, h1, h0⟩ := decFrame_fields (encFrame S P)
  rw [decFrame_encFrame] at hdigital h3 h2 h1 h0
  exact ⟨hdigital.symm, h3.symm, h2.symm, h1.symm, h0.symm⟩

end Sys2Proof.Machine
end

section
/-! SUPPORT. Encoding (R80 to R93): the frame layout and the operand words read back, the selection table row by
row, and the bits of the selector vector. -/

namespace Sys2Proof

/-! ## The frame layout read back (R80, R81) -/

/-- The 32 fixed bits of the ENC row (R81). -/
theorem PortWord.wellFormed_enc_iff {f : Frame} :
    (PortWord.enc f).wellFormed = true ↔ f[0] = 0x01 ∧ f[2] = 0x1B ∧ f[3] = 0xE4 ∧ f[27] = 0x04 := by
  simp [PortWord.wellFormed, and_assoc]

/-- The Snapshot laid out in a frame is the one read back from it. -/
@[simp] theorem unpackFrame_packFrame (S : Snapshot) (P : Byte) : unpackFrame (packFrame S P) = S :=
  Machine.decFrame_encFrame S P

@[simp] theorem packFrame_one (S : Snapshot) (P : Byte) : (packFrame S P)[1] = P := rfl

/-- A frame with the fixed bytes of the ENC row holds nothing but them, the protocol id and the Snapshot. -/
theorem packFrame_unpackFrame {f : Frame} (h : (PortWord.enc f).wellFormed = true) :
    packFrame (unpackFrame f) f[1] = f := by
  obtain ⟨h0, h2, h3, h27⟩ := PortWord.wellFormed_enc_iff.mp h
  refine Vector.ext fun j hj => ?_
  interval_cases j <;> simp [packFrame, unpackFrame, h0, h2, h3, h27]

/-! ## The operand words read back (R93) -/

@[simp] theorem setdPin_setdWord (pin : Byte) (state : Bool) : setdPin (setdWord pin state) = pin :=
  BitVec.extractLsb'_append_eq_left

@[simp] theorem setdState_setdWord (pin : Byte) (state : Bool) : setdState (setdWord pin state) = state := by
  simp only [setdState, setdWord, BitVec.getLsbD_append, Nat.zero_lt_one, if_true, BitVec.getLsbD_ofBool]
  rfl

@[simp] theorem setdWord_fields (w : BitVec 9) : setdWord (setdPin w) (setdState w) = w := by
  have hlow : BitVec.ofBool (setdState w) = w.extractLsb' 0 1 :=
    BitVec.eq_of_getLsbD_eq fun k hk => by simp [setdState, Nat.lt_one_iff.mp hk]
  rw [setdWord, hlow]
  exact BitVec.extractLsb'_append_extractLsb'

@[simp] theorem setaChannel_setaWord (channel : Byte) (value : BitVec 16) :
    setaChannel (setaWord channel value) = channel :=
  BitVec.extractLsb'_append_eq_left

@[simp] theorem setaValue_setaWord (channel : Byte) (value : BitVec 16) :
    setaValue (setaWord channel value) = value :=
  BitVec.extractLsb'_append_eq_right

@[simp] theorem setaWord_fields (w : BitVec 24) : setaWord (setaChannel w) (setaValue w) = w :=
  BitVec.extractLsb'_append_extractLsb'

/-! ## The words on the functions' ports (R81, R93) -/

/-- An ENC word decodes exactly when its fixed bits are there, and then to what its letters say. -/
theorem decodePort_enc_eq_ok {f : Frame} {i : Instr} :
    decodePort (.enc f) = .ok i ↔ (PortWord.enc f).wellFormed = true ∧ i = .enc (unpackFrame f) f[1] := by
  rw [PortWord.wellFormed_enc_iff]
  refine ⟨fun h => ⟨?_, Machine.decodePort_enc h⟩, ?_⟩
  · simp only [decodePort, bne_iff_ne] at h
    split_ifs at h with h0 h2 h3 h27
    exact ⟨not_not.mp h0, not_not.mp h2, not_not.mp h3, not_not.mp h27⟩
  · rintro ⟨⟨h0, h2, h3, h27⟩, rfl⟩
    simp [decodePort, h0, h2, h3, h27]

/-- A word on a function's ports decodes exactly when it is well formed. -/
theorem exists_decodePort_iff (w : PortWord) : (∃ i, decodePort w = .ok i) ↔ w.wellFormed = true := by
  cases w with
  | enc f => simp [decodePort_enc_eq_ok]
  | valid f | dec f | setd o x | getd o x | seta o x => exact ⟨fun _ => rfl, fun _ => ⟨_, rfl⟩⟩

/-- Settles O52: the frame and the operand words read back, and each transition's word is covered by its row. -/
theorem decodeEncode : Obligations.DecodeEncode := by
  unfold Obligations.DecodeEncode
  intro i _
  cases i with
  | enc S P =>
    have hwf : (PortWord.enc (packFrame S P)).wellFormed = true := Laws.WordWellFormed.enc S P
    exact decodePort_enc_eq_ok.mpr ⟨hwf, by simp⟩
  | setd S pin state => simp [encode, decode, decodePort]
  | seta S channel value => simp [encode, decode, decodePort]
  | valid f | dec f | getd S pin => rfl
  | start | wait | fill | wreset | skip | cshort | nocomp | cunal | endfail | accept => rfl

/-- Settles O53: every bit of a port word is a fixed bit of its row or a bit of an operand. -/
theorem encodeDecodePortWord : Obligations.EncodeDecodePortWord := by
  unfold Obligations.EncodeDecodePortWord
  intro w i h
  cases w with
  | enc f =>
    obtain ⟨hwf, rfl⟩ := decodePort_enc_eq_ok.mp h
    simp [encode, packFrame_unpackFrame hwf]
  | setd o S | seta o S => cases h; simp [encode]
  | valid f | dec f | getd o S => cases h; rfl

/-! ## The selection table (R91) -/

theorem SelRow.covers_iff {r : SelRow} {q : BitVec 10} : r.covers q = true ↔ q &&& r.mask = r.pattern := by
  simp [SelRow.covers]

/-- One row of the table, the idle row counted, covers each selector vector (R91). -/
theorem selRows_cover_once (q : BitVec 10) :
    (selRows.filter fun r => r.covers q).length + (if q &&& 0x300 = 0x000 then 1 else 0) = 1 := by
  revert q
  decide

/-- Each row of the table has a transition of its own. -/
theorem selRow_eq_of_transition_eq :
    ∀ r ∈ selRows, ∀ r' ∈ selRows, r.transition = r'.transition → r = r' := by
  decide

/-- The transition picked is that of the row that covers the selector vector. -/
theorem decodeSel_eq_some_iff_covers {r : SelRow} (hr : r ∈ selRows) (q : BitVec 10) :
    decodeSel q = some r.transition ↔ r.covers q = true := by
  constructor
  · intro h
    obtain ⟨r', hfind, htrans⟩ := Option.map_eq_some_iff.mp h
    have hmem : r' ∈ selRows := List.mem_of_find?_eq_some hfind
    obtain rfl := selRow_eq_of_transition_eq r' hmem r hr htrans
    exact List.find?_some (p := (SelRow.covers · q)) hfind
  · intro hcov
    have hmem : r ∈ selRows.filter fun r => r.covers q := List.mem_filter.mpr ⟨hr, hcov⟩
    have hone : (selRows.filter fun r => r.covers q).length = 1 := by
      have := selRows_cover_once q
      have := List.length_pos_of_mem hmem
      omega
    obtain ⟨r', hr'⟩ := List.length_eq_one_iff.mp hone
    obtain rfl : r = r' := by simpa [hr'] using hmem
    rw [decodeSel, ← List.head?_filter, hr']
    rfl

/-- No transition is picked exactly on the idle row. -/
theorem decodeSel_eq_none_iff (q : BitVec 10) : decodeSel q = none ↔ q &&& 0x300 = 0x000 := by
  have hnone : decodeSel q = none ↔ (selRows.filter fun r => r.covers q).length = 0 := by
    simp [decodeSel]
  have hone := selRows_cover_once q
  rw [hnone]
  split at hone
  · next hq => exact iff_of_true (by omega) hq
  · next hq => exact iff_of_false (by omega) hq

/-- A transition is picked exactly when its row's mask and match agree with the selector vector (R91). -/
theorem decodeSel_eq_some_iff {mask pattern : BitVec 10} {i : Instr} (hr : ⟨mask, pattern, i⟩ ∈ selRows)
    (q : BitVec 10) : decodeSel q = some i ↔ q &&& mask = pattern :=
  (decodeSel_eq_some_iff_covers hr q).trans SelRow.covers_iff

/-- Settles O26: the ten rows one by one, and the count of the rows that cover a vector. -/
theorem selectionIsExactlyOneRow : Obligations.SelectionIsExactlyOneRow := by
  unfold Obligations.SelectionIsExactlyOneRow
  exact fun q =>
    ⟨decodeSel_eq_none_iff q, decodeSel_eq_some_iff (by decide) q, decodeSel_eq_some_iff (by decide) q,
      decodeSel_eq_some_iff (by decide) q, decodeSel_eq_some_iff (by decide) q,
      decodeSel_eq_some_iff (by decide) q, decodeSel_eq_some_iff (by decide) q,
      decodeSel_eq_some_iff (by decide) q, decodeSel_eq_some_iff (by decide) q,
      decodeSel_eq_some_iff (by decide) q, decodeSel_eq_some_iff (by decide) q, selRows_cover_once q⟩

/-- A selector vector decodes to the transition it picks. -/
theorem decode_sel_eq_ok {q : BitVec 10} {i : Instr} : decode (.sel q) = .ok i ↔ decodeSel q = some i := by
  cases h : decodeSel q <;> simp [decode, h]

/-- The mask of the idle row looks at GO and BUSY. -/
theorem and_idleMask_ne_zero_iff (q : BitVec 10) :
    q &&& 0x300 ≠ 0x000 ↔ (q.getLsbD 9 || q.getLsbD 8) = true := by
  revert q
  decide

/-- Settles O54: a port word by its fixed bits, a selector vector by the idle row. -/
theorem decoderAcceptsWellFormedWords : Obligations.DecoderAcceptsWellFormedWords := by
  unfold Obligations.DecoderAcceptsWellFormedWords
  intro w
  cases w with
  | port w => exact exists_decodePort_iff w
  | sel q =>
    simp only [decode_sel_eq_ok, ← Option.ne_none_iff_exists', ne_eq, decodeSel_eq_none_iff]
    exact and_idleMask_ne_zero_iff q

/-- Settles O55: the decoder run on eight closed words. -/
theorem sampleWordsDecode : Obligations.SampleWordsDecode := by
  unfold Obligations.SampleWordsDecode
  decide

end Sys2Proof

namespace Sys2Proof.Machine

/-! ## The bits of the selector vector (R90) -/

/-- Bit `k` of the selector vector is the flag that R90 puts there, GO the most significant. -/
theorem State.getLsbD_selector (s : State) (k : Nat) :
    s.selector.getLsbD k =
      [s.flagEot, s.flagFront, s.flagCmp, s.flagRoom, s.flagSoh, s.flagEnd, s.flagRxv, s.flagNz, s.flagBusy,
        s.flagGo].getD k false := by
  rw [State.selector, selectorWord, BitVec.getLsbD_ofBoolListBE]
  rcases lt_or_ge k 10 with h | h
  · interval_cases k <;> rfl
  · simp [h]

theorem State.flagEnd_iff {s : State} : s.flagEnd = true ↔ s.need = 0 ∧ s.cur = 28 := by
  simp [State.flagEnd]

/-- SOH is 0 while the window is being filled, and where the cursor has passed it. -/
theorem State.flagSoh_iff_exists {s : State} :
    s.flagSoh = true ↔ s.need = 0 ∧ ∃ h : s.cur.val < 28, s.w[s.cur.val] = 0x01 := by
  by_cases hn : s.need = 0
  · by_cases hc : s.cur.val < 28
    · simp [State.flagSoh_iff hn hc, hn, hc]
    · simp [State.flagSoh, State.winIs, hc]
  · simp [State.flagSoh, hn]

/-- CMP is 0 while the window is being filled, and where its pair would lie outside. -/
theorem State.flagCmp_iff_exists {s : State} :
    s.flagCmp = true ↔
      s.need = 0 ∧ ∃ h : s.cur.val + 3 < 28, s.w[s.cur.val + 2] ^^^ s.w[s.cur.val + 3] = 0xFF := by
  by_cases hn : s.need = 0
  · by_cases hr : s.cur.val + 3 < 28
    · simp [State.flagCmp_iff hn hr, hn, hr]
    · simp [State.flagCmp, State.winPair, hr]
  · simp [State.flagCmp, hn]

theorem State.flagEot_iff_and {s : State} : s.flagEot = true ↔ s.need = 0 ∧ s.w[27] = 0x04 := by
  by_cases hn : s.need = 0
  · simp [State.flagEot_iff hn, hn]
  · simp [State.flagEot, hn]

/-- Settles O27: bit by bit the flag, and each flag's test. -/
theorem selectorBitsAreTheTests : Obligations.SelectorBitsAreTheTests := by
  unfold Obligations.SelectorBitsAreTheTests
  intro s
  simp only [State.getLsbD_selector]
  exact ⟨rfl, rfl, by simp [State.flagNz], rfl, State.flagEnd_iff, State.flagSoh_iff_exists, State.flagRoom_iff,
    State.flagCmp_iff_exists, by simp [State.flagFront], State.flagEot_iff_and⟩

/-- R29 (a): while a byte is needed the cursor is at the front. -/
theorem State.cur_eq_zero_of_need {s : State} (hl : s.legal = true) (hn : s.need ≠ 0) : s.cur = 0 := by
  cases hb : s.busy with
  | true => exact ((State.legal_of_busy hb).mp hl).resolve_left hn
  | false => exact ((State.legal_of_idle hb).mp hl).2

/-- Settles O28: R29 puts the cursor at the front while a byte is needed, and asks for a whole window while no
invocation runs. -/
theorem impossibleSelectors : Obligations.ImpossibleSelectors := by
  unfold Obligations.ImpossibleSelectors
  intro s hl
  obtain ⟨-, hbusy, hnz, -, hend, hsoh, hroom, hcmp, hfront, heot⟩ := selectorBitsAreTheTests s
  simp only [← Bool.not_eq_true, hnz, hend, hsoh, hroom, hcmp, hfront, heot, hbusy]
  refine ⟨?_, fun ⟨_, hr, _⟩ => hr, fun h0 => ?_, fun hn => ?_, fun hb => ?_⟩
  · rintro ⟨-, hc⟩
    simp [hc]
  · simp [h0]
  · simp [hn, State.cur_eq_zero_of_need hl hn]
  · obtain ⟨hn, h0⟩ := (State.legal_of_idle (Bool.eq_false_iff.mpr hb)).mp hl
    simp [hn, h0]

/-! ## Transitions and their rows (R91) -/

/-- Every operation of the selection table fires: it has an effect only where it is enabled. -/
theorem exec_eq_fire {r : SelRow} (hr : r ∈ selRows) (s : State) :
    ∃ m t, exec r.transition s = fire m r.transition s t := by
  simp only [selRows, List.mem_cons, List.not_mem_nil, or_false] at hr
  rcases hr with rfl | rfl | rfl | rfl | rfl | rfl | rfl | rfl | rfl | rfl <;> exact ⟨_, _, rfl⟩

/-- A transition of the table is enabled exactly where its row covers the selector vector. -/
theorem State.enabled_eq_covers {r : SelRow} (hr : r ∈ selRows) (s : State) :
    s.enabled r.transition = r.covers s.selector :=
  Bool.eq_iff_iff.mpr (State.enabled_iff.trans (decodeSel_eq_some_iff_covers hr s.selector))

/-- Settles O29: a transition fires where its row covers the selector vector, and is refused elsewhere. -/
theorem transitionsNeedTheirRow : Obligations.TransitionsNeedTheirRow := by
  unfold Obligations.TransitionsNeedTheirRow
  intro r hr s
  obtain ⟨m, t, hfire⟩ := exec_eq_fire hr s
  rw [hfire, ← State.enabled_eq_covers hr]
  exact ⟨fun h => ⟨t, fire_of_enabled h⟩, fun h => ⟨m, fire_of_not_enabled h⟩⟩

/-! ## The step (R93) -/

/-- An operation does not touch the moves that come after it. -/
theorem exec_queue {i : Instr} {s t : State} (h : exec i s = .next t) : t.queue = s.queue := by
  cases i with
  | enc | valid | dec | setd | getd | seta => cases h; simp
  | fill =>
    obtain ⟨-, rfl⟩ := fire_eq_next.mp (show execFill s = .next t from h)
    cases s.offered <;> simp
  | start | wait | wreset | skip | cshort | nocomp | cunal | endfail | accept =>
    obtain ⟨-, rfl⟩ := fire_eq_next.mp h
    simp

/-- The end of an operation's step: the script goes on with the moves that came after the coming one (log 2). -/
theorem finish_exec (i : Instr) (s : State) :
    finish (exec i s) =
      match exec i s with
      | .next t => .next { t with script := s.queue.tail }
      | .fault r => .fault r
      | .refused r => .refused r := by
  cases h : exec i s with
  | next t => rw [finish_next, State.popMove, exec_queue h]
  | fault r => rfl
  | refused r => rfl

/-- Settles O31: what decodes is fetched, and the step is that operation and its end. -/
theorem stepRunsDecodedOperation : Obligations.StepRunsDecodedOperation := by
  unfold Obligations.StepRunsDecodedOperation
  refine ⟨fun s w i hm hd _ => ?_, fun s start offer i hm hl hd _ => ?_⟩
  · exact (step_of_decodePort hm hd).trans (finish_exec i s)
  · have hi : decodeSel s.selector = some i := decode_sel_eq_ok.mp hd
    have hf : s.fetch = .op i := by rw [State.fetch_sync hm hl, hi]
    exact (step_of_op hf).trans (finish_exec i s)

end Sys2Proof.Machine
end

section
/-! SUPPORT. Codec (R110 to R122): what ENC, VALID and DEC answer on their ports, the bytes of an encoded frame, the
validity gate, and that the six functions touch nothing of the block. -/

namespace Sys2Proof

/-- Every value of every operand is legal (R99). -/
theorem Instr.wellFormed_eq_true (i : Instr) : i.wellFormed = true := by cases i <;> rfl

end Sys2Proof

namespace Sys2Proof.Machine

/-! ## The functions on their ports (R38, R110) -/

theorem exec_enc (S : Snapshot) (P : Byte) (s : State) :
    exec (.enc S P) s = .next (s.pushResult (.encFrame (encFrame S P))) := rfl

theorem exec_valid (B : Frame) (s : State) : exec (.valid B) s = .next (s.pushResult (.valOk (validFrame B))) := rfl

theorem exec_dec (B : Frame) (s : State) : exec (.dec B) s = .next (s.pushResult (.decSnapshot (decFrame B))) := rfl

/-- An operation whose word stands on a function's ports answers one result in every state. -/
theorem exec_of_encode_port {w : PortWord} {i : Instr} (h : encode i = .port w) :
    ∃ r, ∀ s, exec i s = .next (s.pushResult r) := by
  have hd : decode (.port w) = .ok i := h ▸ decodeEncode i (Instr.wellFormed_eq_true i)
  exact exec_of_decodePort_uniform hd

theorem blockUntouched_pushResult (s : State) (r : PortResult) : Safety.BlockUntouched s (s.pushResult r) where
  w := rfl
  cur := rfl
  need := rfl
  busy := rfl
  rxsnap := rfl
  rx := rfl
  script := rfl
  habit := rfl
  given := rfl
  delivered := rfl

/-- Settles O15: each of the six has a word on a function's ports, and showing a result touches nothing else. -/
theorem functionsTouchNothing : Obligations.FunctionsTouchNothing := by
  unfold Obligations.FunctionsTouchNothing
  intro S B x v value i hi
  have hword : ∃ w, encode i = .port w := by
    obtain rfl | rfl | rfl | rfl | rfl | rfl := hi <;> exact ⟨_, rfl⟩
  obtain ⟨w, hw⟩ := hword
  obtain ⟨r, hr⟩ := exec_of_encode_port hw
  exact ⟨r, fun s => ⟨s.pushResult r, hr s, rfl, blockUntouched_pushResult s r⟩⟩

/-! ## ENC (R111 to R113) -/

@[simp] theorem encFrame_protocolId (S : Snapshot) (P : Byte) : (encFrame S P)[1] = P := rfl

@[simp] theorem encFrame_auxFlag (S : Snapshot) (P : Byte) : (encFrame S P)[16] = S.auxFlag := rfl

/-- The structural bytes of an encoded frame are ENC's constants (R112). -/
theorem encFrame_structural (S : Snapshot) (P : Byte) :
    (encFrame S P)[0] = 0x01 ∧ (encFrame S P)[2] = 0x1B ∧ (encFrame S P)[3] = 0xE4 ∧ (encFrame S P)[27] = 0x04 :=
  ⟨rfl, rfl, rfl, rfl⟩

/-- `digital_io` in an encoded frame, most significant byte first. -/
theorem encFrame_digital (S : Snapshot) (P : Byte) :
    (encFrame S P)[4] = S.digitalIo.extractLsb' 24 8 ∧ (encFrame S P)[5] = S.digitalIo.extractLsb' 16 8
    ∧ (encFrame S P)[6] = S.digitalIo.extractLsb' 8 8 ∧ (encFrame S P)[7] = S.digitalIo.extractLsb' 0 8 :=
  ⟨rfl, rfl, rfl, rfl⟩

/-- Channel `c` in an encoded frame stands at offsets `14-2c` and `15-2c` (R51). -/
theorem encFrame_analog (S : Snapshot) (P : Byte) {c : Nat} (hc : c < 4) :
    (encFrame S P)[14 - 2 * c] = S.analogIo[c].extractLsb' 8 8
    ∧ (encFrame S P)[15 - 2 * c] = S.analogIo[c].extractLsb' 0 8 := by
  interval_cases c <;> exact ⟨rfl, rfl⟩

/-- Element `k` of each aux array in an encoded frame stands `k` after the array's first (R54). -/
theorem encFrame_aux (S : Snapshot) (P : Byte) {k : Nat} (hk : k < 5) :
    (encFrame S P)[17 + k] = S.auxA[k] ∧ (encFrame S P)[22 + k] = S.auxB[k] := by
  interval_cases k <;> exact ⟨rfl, rfl⟩

/-- Settles O1: the frame shown is `encFrame S P`, whose bytes are the table's. -/
theorem encWritesTheFrameTable : Obligations.EncWritesTheFrameTable := by
  unfold Obligations.EncWritesTheFrameTable
  intro S P s
  obtain ⟨h0, h2, h3, h27⟩ := encFrame_structural S P
  obtain ⟨h4, h5, h6, h7⟩ := encFrame_digital S P
  obtain ⟨h8, h9⟩ := encFrame_analog S P (c := 3) (by decide)
  obtain ⟨h10, h11⟩ := encFrame_analog S P (c := 2) (by decide)
  obtain ⟨h12, h13⟩ := encFrame_analog S P (c := 1) (by decide)
  obtain ⟨h14, h15⟩ := encFrame_analog S P (c := 0) (by decide)
  obtain ⟨h17, h22⟩ := encFrame_aux S P (k := 0) (by decide)
  obtain ⟨h18, h23⟩ := encFrame_aux S P (k := 1) (by decide)
  obtain ⟨h19, h24⟩ := encFrame_aux S P (k := 2) (by decide)
  obtain ⟨h20, h25⟩ := encFrame_aux S P (k := 3) (by decide)
  obtain ⟨h21, h26⟩ := encFrame_aux S P (k := 4) (by decide)
  exact ⟨encFrame S P, exec_enc S P s, h0, encFrame_protocolId S P, h2, h3, h4, h5, h6, h7, h8, h9, h10, h11, h12,
    h13, h14, h15, encFrame_auxFlag S P, h17, h18, h19, h20, h21, h22, h23, h24, h25, h26, h27⟩

/-- A frame tells both operands of ENC: DEC gives the Snapshot back, offset 1 the protocol id (R113). -/
theorem encFrame_injective {S S' : Snapshot} {P P' : Byte} (h : encFrame S P = encFrame S' P') : S = S' ∧ P = P' := by
  constructor
  · calc S = decFrame (encFrame S P) := (decFrame_encFrame S P).symm
      _ = decFrame (encFrame S' P') := by rw [h]
      _ = S' := decFrame_encFrame S' P'
  · calc P = (encFrame S P)[1] := (encFrame_protocolId S P).symm
      _ = (encFrame S' P')[1] := by rw [h]
      _ = P' := encFrame_protocolId S' P'

/-- Settles O2: ENC has one answer in every state, and its operands can be read back from the frame. -/
theorem encIsTotalAndInjective : Obligations.EncIsTotalAndInjective :=
  ⟨fun S P s => ⟨_, exec_enc S P s⟩, fun _ _ _ _ => encFrame_injective⟩

/-! ## DEC (R116 to R120) -/

/-- Settles O7, by the law that DEC reads back every field that ENC laid out. -/
theorem codecRoundTrip : Obligations.CodecRoundTrip := decFrame_encFrame

/-- Settles O4: the Snapshot shown is `decFrame B`, each field read at its offsets. -/
theorem decExtractsTheFields : Obligations.DecExtractsTheFields := by
  unfold Obligations.DecExtractsTheFields
  intro B s
  exact ⟨decFrame B, exec_dec B s, rfl, rfl, rfl, rfl, rfl, rfl, rfl, rfl, rfl, rfl, rfl, rfl, rfl, rfl, rfl, rfl⟩

/-- DEC reads offsets 4 to 26 and no other (R118). -/
theorem decFrame_congr {B B' : Frame} (h : ∀ (j : Nat) (hj : j < 28), 4 ≤ j → j ≤ 26 → B[j] = B'[j]) :
    decFrame B = decFrame B' := by
  simp only [decFrame, unpackFrame, h, Nat.reduceLeDiff]

/-- Settles O5: windows that agree at the offsets DEC reads have one Snapshot, in whatever states. -/
theorem decDependsOnPayloadOnly : Obligations.DecDependsOnPayloadOnly := by
  unfold Obligations.DecDependsOnPayloadOnly
  intro B B' h
  have hdec : decFrame B = decFrame B' := decFrame_congr fun j hj => h ⟨j, hj⟩
  exact ⟨decFrame B, fun s s' => ⟨exec_dec B s, hdec ▸ exec_dec B' s'⟩⟩

/-! ## VALID (R114, R121, R122) -/

/-- VALID is the three tests of R114. -/
theorem validFrame_iff {B : Frame} : validFrame B = true ↔ B[0] = 0x01 ∧ B[2] ^^^ B[3] = 0xFF ∧ B[27] = 0x04 := by
  simp [validFrame, and_assoc]

/-- Settles O3: the truth value shown is `validFrame B`. -/
theorem validIsTheThreeTests : Obligations.ValidIsTheThreeTests :=
  fun B s => ⟨validFrame B, exec_valid B s, validFrame_iff⟩

@[simp] theorem validFrame_encFrame (S : Snapshot) (P : Byte) : validFrame (encFrame S P) = true := by
  obtain ⟨h0, h2, h3, h27⟩ := encFrame_structural S P
  have hpair : (encFrame S P)[2] ^^^ (encFrame S P)[3] = 0xFF := by rw [h2, h3]; decide
  exact validFrame_iff.mpr ⟨h0, hpair, h27⟩

/-- Re-encoding what was decoded gives back the frames with ENC's constants, and no others (R121). -/
theorem encFrame_decFrame_iff {B : Frame} :
    encFrame (decFrame B) B[1] = B ↔ B[0] = 0x01 ∧ B[2] = 0x1B ∧ B[3] = 0xE4 ∧ B[27] = 0x04 := by
  constructor
  · intro h
    have hstructural := encFrame_structural (decFrame B) B[1]
    rwa [h] at hstructural
  · intro h
    exact packFrame_unpackFrame (PortWord.wellFormed_enc_iff.mpr h)

/-- Settles O8: ENC's constants pass the three tests, and the rest of a frame is the protocol id and the Snapshot. -/
theorem encodedFramesAreValid : Obligations.EncodedFramesAreValid :=
  ⟨validFrame_encFrame, fun _ => encFrame_decFrame_iff⟩

/-- VALID looks at offsets 0, 2, 3 and 27 and no other. -/
theorem validFrame_congr {B B' : Frame} (h0 : B'[0] = B[0]) (h2 : B'[2] = B[2]) (h3 : B'[3] = B[3])
    (h27 : B'[27] = B[27]) : validFrame B' = validFrame B := by
  simp only [validFrame, h0, h2, h3, h27]

/-- Two valid frames have the same markers, and where they share one byte of the length pair they share the other:
each is the other's complement. -/
theorem validFrame_structural_eq {B B' : Frame} (h : validFrame B = true) (h' : validFrame B' = true) :
    B'[0] = B[0] ∧ (B'[2] = B[2] ↔ B'[3] = B[3]) ∧ B'[27] = B[27] := by
  obtain ⟨h0, hpair, h27⟩ := validFrame_iff.mp h
  obtain ⟨h0', hpair', h27'⟩ := validFrame_iff.mp h'
  have hxor : B'[2] ^^^ B'[3] = B[2] ^^^ B[3] := hpair'.trans hpair.symm
  refine ⟨h0'.trans h0.symm, ⟨fun h2 => ?_, fun h3 => ?_⟩, h27'.trans h27.symm⟩
  · rw [h2] at hxor
    exact (BitVec.xor_right_inj _).mp hxor
  · rw [h3] at hxor
    exact (BitVec.xor_left_inj _).mp hxor

/-- An encoded frame with the length pair `00 FF` in the place of `1B E4`. -/
def zeroLengthFrame : Frame := ((encFrame Snapshot.zero 0).set 2 0x00).set 3 0xFF

/-- Settles O9: two valid frames never differ in exactly one structural byte; the length pair can change jointly. -/
theorem validityGate : Obligations.ValidityGate := by
  unfold Obligations.ValidityGate
  refine ⟨fun B B' h hchange => ?_, fun B B' => validFrame_congr, ?_⟩
  · by_contra hvalid
    obtain ⟨e0, epair, e27⟩ := validFrame_structural_eq h (Bool.eq_true_of_not_eq_false hvalid)
    obtain ⟨hne, -⟩ | ⟨-, hne, h3, -⟩ | ⟨-, h2, hne, -⟩ | ⟨-, -, -, hne⟩ := hchange
    · exact hne e0
    · exact hne (epair.mpr h3)
    · exact hne (epair.mp h2)
    · exact hne e27
  · refine ⟨encFrame Snapshot.zero 0, zeroLengthFrame, validFrame_encFrame _ _, ?_, ?_, ?_⟩ <;> decide

end Sys2Proof.Machine
end

section
/-! SUPPORT. The transitions (R145 to R157): the guards under which the selector vector picks each one, what each
then does, and the step function of R156. -/

namespace Sys2Proof.Machine

open Sys2Proof.Safety

/-! ## The guards of the transitions (R91) -/

section
variable {s : State}

theorem State.selects_start (hb : s.busy = false) (hg : s.startIn = true) :
    decodeSel s.selector = some .start := by
  simp [decodeSel_selector, hb, hg]

theorem State.selects_wait (hb : s.busy = true) (hn : s.need ≠ 0) (ho : s.offered = none) :
    decodeSel s.selector = some .wait := by
  simp [decodeSel_selector, hb, hn, ho]

theorem State.selects_fill {b : Byte} (hb : s.busy = true) (hn : s.need ≠ 0) (ho : s.offered = some b) :
    decodeSel s.selector = some .fill := by
  simp [decodeSel_selector, hb, hn, ho]

theorem State.selects_wreset (hb : s.busy = true) (hn : s.need = 0) (hc : s.cur = 28) :
    decodeSel s.selector = some .wreset := by
  simp [decodeSel_selector, hb, hn, hc]

/-- A cursor below 28 has not passed the last position. -/
theorem State.cur_ne_of_lt (hc : s.cur.val < 28) : s.cur ≠ 28 := by
  intro h
  simp [h] at hc

/-- A cursor at 25 or later is not at the front. -/
theorem State.cur_ne_zero_of_le (hr : 28 ≤ s.cur.val + 3) : s.cur ≠ 0 := by
  intro h
  simp [h] at hr

theorem State.selects_skip (hb : s.busy = true) (hn : s.need = 0) (hc : s.cur.val < 28)
    (h1 : s.w[s.cur.val] ≠ 0x01) : decodeSel s.selector = some .skip := by
  have hsoh : s.flagSoh = false := Bool.eq_false_iff.mpr ((State.flagSoh_iff hn hc).not.mpr h1)
  simp [decodeSel_selector, hb, hn, State.cur_ne_of_lt hc, hsoh]

theorem State.selects_cshort (hb : s.busy = true) (hn : s.need = 0) (hc : s.cur.val < 28)
    (h1 : s.w[s.cur.val] = 0x01) (hr : 28 ≤ s.cur.val + 3) : decodeSel s.selector = some .cshort := by
  have hsoh : s.flagSoh = true := (State.flagSoh_iff hn hc).mpr h1
  have hroom : s.flagRoom = false := Bool.eq_false_iff.mpr (State.flagRoom_iff.not.mpr (by omega))
  simp [decodeSel_selector, hb, hn, State.cur_ne_of_lt hc, hsoh, hroom]

theorem State.selects_nocomp (hb : s.busy = true) (hn : s.need = 0) (hr : s.cur.val + 3 < 28)
    (h1 : s.w[s.cur.val] = 0x01) (h2 : s.w[s.cur.val + 2] ^^^ s.w[s.cur.val + 3] ≠ 0xFF) :
    decodeSel s.selector = some .nocomp := by
  have hc : s.cur.val < 28 := by omega
  have hsoh : s.flagSoh = true := (State.flagSoh_iff hn hc).mpr h1
  have hroom : s.flagRoom = true := State.flagRoom_iff.mpr hr
  have hcmp : s.flagCmp = false := Bool.eq_false_iff.mpr ((State.flagCmp_iff hn hr).not.mpr h2)
  simp [decodeSel_selector, hb, hn, State.cur_ne_of_lt hc, hsoh, hroom, hcmp]

/-- A candidate: a start marker and a complement pair at the cursor. Only its place and the end marker are left
to test. -/
theorem State.selects_of_candidate (hb : s.busy = true) (hn : s.need = 0) (hr : s.cur.val + 3 < 28)
    (h1 : s.w[s.cur.val] = 0x01) (h2 : s.w[s.cur.val + 2] ^^^ s.w[s.cur.val + 3] = 0xFF) :
    decodeSel s.selector =
      if s.cur ≠ 0 then some .cunal else if s.w[27] ≠ 0x04 then some .endfail else some .accept := by
  have hc : s.cur.val < 28 := by omega
  have hsoh : s.flagSoh = true := (State.flagSoh_iff hn hc).mpr h1
  have hroom : s.flagRoom = true := State.flagRoom_iff.mpr hr
  have hcmp : s.flagCmp = true := (State.flagCmp_iff hn hr).mpr h2
  have heot : s.flagEot = false ↔ s.w[27] ≠ 0x04 := by
    rw [← Bool.not_eq_true, State.flagEot_iff hn]
  simp [decodeSel_selector, hb, hn, State.cur_ne_of_lt hc, hsoh, hroom, hcmp, heot]

theorem State.selects_cunal (hb : s.busy = true) (hn : s.need = 0) (hr : s.cur.val + 3 < 28)
    (h1 : s.w[s.cur.val] = 0x01) (h2 : s.w[s.cur.val + 2] ^^^ s.w[s.cur.val + 3] = 0xFF) (h0 : s.cur ≠ 0) :
    decodeSel s.selector = some .cunal := by
  rw [State.selects_of_candidate hb hn hr h1 h2, if_pos h0]

/-- The candidate at the front: its bytes have fixed offsets. -/
theorem State.selects_of_front (hb : s.busy = true) (hn : s.need = 0) (h0 : s.cur = 0) (h1 : s.w[0] = 0x01)
    (h2 : s.w[2] ^^^ s.w[3] = 0xFF) :
    decodeSel s.selector = if s.w[27] ≠ 0x04 then some .endfail else some .accept := by
  have hv : s.cur.val = 0 := by simp [h0]
  rw [State.selects_of_candidate hb hn (by omega) (by simpa [hv] using h1) (by simpa [hv] using h2),
    if_neg (by simpa using h0)]

theorem State.selects_endfail (hb : s.busy = true) (hn : s.need = 0) (h0 : s.cur = 0) (h1 : s.w[0] = 0x01)
    (h2 : s.w[2] ^^^ s.w[3] = 0xFF) (h3 : s.w[27] ≠ 0x04) : decodeSel s.selector = some .endfail := by
  rw [State.selects_of_front hb hn h0 h1 h2, if_pos h3]

theorem State.selects_accept (hb : s.busy = true) (hn : s.need = 0) (h0 : s.cur = 0) (h1 : s.w[0] = 0x01)
    (h2 : s.w[2] ^^^ s.w[3] = 0xFF) (h3 : s.w[27] = 0x04) : decodeSel s.selector = some .accept := by
  rw [State.selects_of_front hb hn h0 h1 h2, if_neg (by simpa using h3)]

/-- ACCEPT is at the end of every branch of the table: all its guards hold where it is picked. -/
theorem State.guards_of_selects_accept (h : decodeSel s.selector = some .accept) :
    s.busy = true ∧ s.need = 0 ∧ s.cur = 0 ∧ s.flagSoh = true ∧ s.flagCmp = true ∧ s.flagEot = true := by
  rw [decodeSel_selector] at h
  split_ifs at h <;> simp_all

end

/-- Settles O30: the guards of ACCEPT on window bytes are the three tests of VALID at the front. -/
theorem acceptIsFrontAndValid : Obligations.AcceptIsFrontAndValid := by
  unfold Obligations.AcceptIsFrontAndValid
  intro s
  constructor
  · intro h
    obtain ⟨hb, hn, h0, hsoh, hcmp, heot⟩ := State.guards_of_selects_accept h
    obtain ⟨-, _, h1⟩ := State.flagSoh_iff_exists.mp hsoh
    obtain ⟨-, _, h2⟩ := State.flagCmp_iff_exists.mp hcmp
    have h3 : s.w[27] = 0x04 := (State.flagEot_iff hn).mp heot
    exact ⟨hb, hn, h0, validFrame_iff.mpr ⟨by simpa [h0] using h1, by simpa [h0] using h2, h3⟩⟩
  · rintro ⟨hb, hn, h0, hv⟩
    obtain ⟨h1, h2, h3⟩ := validFrame_iff.mp hv
    exact State.selects_accept hb hn h0 h1 h2 h3

/-! ## The step function of R156 -/

/-- Both compacting transitions do what R156 writes out as `compacted`. -/
theorem State.compactCursor_eq_compacted (s : State) : s.compactCursor = stepR156.compacted s := rfl

/-- Each case of a Synchronizer step is a branch of the nested tests of R156. -/
theorem SyncStep.eq_stepR156 {s u : State} (h : SyncStep s u) : u = stepR156 s.startIn s.offered s := by
  have hrun : s.busy = true → ¬ s.busy = false := by simp
  have hscan : s.need = 0 → ¬ s.need.val ≠ 0 := by simp +contextual
  have hnext (hc : s.cur.val < 28) : cursorNext s.cur = ⟨s.cur.val + 1, by omega⟩ := Fin.ext (cursorNext_val hc)
  cases h with
  | idle hb hg => simp [stepR156, hb, hg]
  | start hb hg => simp [stepR156, hb, hg, State.setBusy]
  | wait hb hn ho => simp [stepR156, hb, hn, ho]
  | fill b hb hn ho => simp [stepR156, hb, hn, ho, State.takeByte, needPred]
  | wreset hb hn hc => simp [stepR156, hb, hn, hc, State.refill]
  | skip hb hn hc h1 =>
    rw [stepR156.eq_def, if_neg (hrun hb), if_neg (hscan hn), dif_pos hc, if_pos h1, State.setCur, hnext hc]
  | cshort hb hn hc h1 hr =>
    rw [stepR156.eq_def, if_neg (hrun hb), if_neg (hscan hn), dif_pos hc, if_neg (not_not.mpr h1), dif_neg (by omega),
      State.compactCursor_eq_compacted]
  | nocomp hb hn hr h1 h2 =>
    have hc : s.cur.val < 28 := by omega
    rw [stepR156.eq_def, if_neg (hrun hb), if_neg (hscan hn), dif_pos hc, if_neg (not_not.mpr h1), dif_pos hr, if_pos h2,
      State.setCur, hnext hc]
  | cunal hb hn hr h1 h2 h0 =>
    have hc : s.cur.val < 28 := by omega
    rw [stepR156.eq_def, if_neg (hrun hb), if_neg (hscan hn), dif_pos hc, if_neg (not_not.mpr h1), dif_pos hr,
      if_neg (not_not.mpr h2), if_pos (by simpa using h0), State.compactCursor_eq_compacted]
  | endfail hb hn h0 h1 h2 h3 => simpa [stepR156, hb, hn, h0, h1, h2, State.setCur] using h3
  | accept hb hn h0 h1 h2 h3 => simp [stepR156, hb, hn, h0, h1, h2, h3, State.acceptFrame, State.deliver]

/-- Settles O32: the case that a Synchronizer step is, and the move it has made. -/
theorem stepIsTheStepFunction : Obligations.StepIsTheStepFunction := by
  unfold Obligations.StepIsTheStepFunction
  intro s start offer hm hl
  obtain ⟨u, hu, hstep⟩ := step_sync hm hl
  rw [hstep, State.popMove, hu.queue, hu.eq_stepR156, State.startIn_sync hm]

/-- While an invocation runs, R156 does not look at `start`. -/
theorem stepR156_of_busy {s : State} (hb : s.busy = true) (start start' : Bool) (input : Option Byte) :
    stepR156 start input s = stepR156 start' input s := by
  simp [stepR156, hb]

/-- R156 neither looks at the script nor writes it. -/
theorem stepR156_with_script (start : Bool) (input : Option Byte) (s : State) (moves : List Move) :
    stepR156 start input { s with script := moves } = { stepR156 start input s with script := moves } := by
  unfold stepR156
  dsimp only
  split_ifs <;> try rfl
  cases input <;> rfl

/-- A Synchronizer step by its move: the state with the move at the head of its script. -/
theorem step_with_sync {s : State} (hl : s.legal = true) (start offer : Bool) (rest : List Move) :
    step { s with script := .sync start offer :: rest } =
      .next { stepR156 start (if offer then s.rx.head? else none) s with script := rest } := by
  rw [stepIsTheStepFunction { s with script := .sync start offer :: rest } start offer rfl hl,
    stepR156_with_script start _ s (.sync start offer :: rest)]
  cases offer <;> rfl

/-! ## The status outputs around a step (R36) -/

section
variable {s : State}

/-- `rst` is not asserted where the Synchronizer looks at a `start` of 1. -/
theorem State.rstIn_of_startIn (hg : s.startIn = true) : s.rstIn = false := by
  cases hm : s.move <;> simp_all [State.startIn, State.rstIn]

/-- Nor where a byte is offered. -/
theorem State.rstIn_of_offered {b : Byte} (ho : s.offered = some b) : s.rstIn = false := by
  obtain ⟨_, _, hm, -⟩ := State.offered_eq_some ho
  simp [State.rstIn, hm]

/-- Without `rst`, `rx_ready` is 1 while an invocation runs and a byte is needed. -/
theorem State.rxReady_of_need (hr : s.rstIn = false) (hb : s.busy = true) (hn : s.need ≠ 0) : s.rxReady = true := by
  simp [State.rxReady, hr, hb, hn]

/-- A function on its ports is no ACCEPT. -/
theorem decodePort_ne_accept (w : PortWord) : decodePort w ≠ .ok .accept := by
  intro h
  cases w with
  | enc f => cases decodePort_enc h
  | valid | dec | setd | getd | seta => cases h

/-- The step runs ACCEPT only where the selector vector picks it. -/
theorem State.selects_of_fetch_accept (h : s.fetch = .op .accept) : decodeSel s.selector = some .accept := by
  cases hm : s.move with
  | sync a o =>
    have hl : s.legal = true := by
      by_contra hl
      simp [State.fetch, hm, hl] at h
    rw [State.fetch_sync hm hl] at h
    cases hd : decodeSel s.selector with
    | some i => simpa [hd] using h
    | none => simp [hd] at h
  | use w =>
    cases hd : decodePort w with
    | ok i =>
      obtain rfl : i = .accept := by simpa [State.fetch, hm, hd] using h
      exact absurd hd (decodePort_ne_accept w)
    | error e => simp [State.fetch, hm, hd] at h
  | rst | arrive | arriveAny => simp [State.fetch, hm] at h

/-- So `snap_valid` is 0 while no invocation runs. -/
theorem State.snapValid_of_idle (hb : s.busy = false) : s.snapValid = false := by
  rw [Bool.eq_false_iff]
  intro hv
  have hi := State.selects_of_fetch_accept (State.snapValid_iff.mp hv)
  simp [((acceptIsFrontAndValid s).mp hi).1] at hb

end

/-! ## The ten transitions (R145 to R155) -/

/-- A transition that the selector vector picks has its effect. -/
theorem exec_of_selects {s t : State} {i : Instr} {m : String} (hi : decodeSel s.selector = some i)
    (hx : exec i s = fire m i s t) : exec i s = .next t := by
  rw [hx, fire_of_enabled (State.enabled_iff.mpr hi)]

/-- Settles O16: START is picked, and the step function of R156 does not look at `start` while `BUSY` is 1. -/
theorem startSetsBusy : Obligations.StartSetsBusy := by
  unfold Obligations.StartSetsBusy
  refine ⟨fun s hg hb => ?_, fun s offer rest hb => ?_⟩
  · have hr : (s.setBusy true).rstIn = false := State.rstIn_of_startIn (s := s) hg
    refine ⟨s.setBusy true, exec_of_selects (State.selects_start hb hg) rfl, rfl, by simp [State.busyOut, hr], ?_⟩
    intro hn
    exact State.rxReady_of_need hr rfl (by simp [hn])
  · cases hl : s.legal with
    | true =>
      rw [step_with_sync hl, step_with_sync hl, stepR156_of_busy hb true false]
    | false =>
      rw [illegalStatesAreRefused { s with script := .sync true offer :: rest } true offer rfl hl,
        illegalStatesAreRefused { s with script := .sync false offer :: rest } false offer rfl hl]

/-- Settles O17: WAIT is picked, and its effect is the same state. -/
theorem waitChangesNothing : Obligations.WaitChangesNothing := fun _ hb hn ho =>
  ⟨exec_of_selects (State.selects_wait hb hn ho) rfl, fun hr => State.rxReady_of_need hr hb hn⟩

/-- Settles O18: FILL is picked and takes the byte. -/
theorem fillStoresTheByte : Obligations.FillStoresTheByte := by
  unfold Obligations.FillStoresTheByte
  intro s b hb hn ho
  obtain ⟨_, l, -, hl⟩ := State.offered_eq_some ho
  have hx : exec .fill s = fire "FILL" .fill s (s.takeByte b) := by simp [exec, execFill, ho]
  refine ⟨s.takeByte b, exec_of_selects (State.selects_fill hb hn ho) hx, fun j => ?_, rfl, by simp [hl], rfl, rfl, rfl,
    rfl, rfl, rfl, rfl, rfl, rfl, State.rxReady_of_need (State.rstIn_of_offered ho) hb hn, fun h1 => ?_⟩
  · simp [Vector.getElem_setIfInBounds, eq_comm]
  · simp [State.rxReady, h1, needPred]

/-- Settles O19: WRESET is picked, and a whole window is needed after it. -/
theorem wresetAsksForAWindow : Obligations.WresetAsksForAWindow := fun s hb hn hc =>
  ⟨s.refill, exec_of_selects (State.selects_wreset hb hn hc) rfl, rfl,
    fun hr => State.rxReady_of_need hr hb (by simp)⟩

/-- Settles O20: SKIP is picked, and a cursor below 28 moves on by one. -/
theorem skipAdvances : Obligations.SkipAdvances := fun s hc hb hn h1 =>
  ⟨s.setCur (cursorNext s.cur), exec_of_selects (State.selects_skip hb hn hc h1) rfl, rfl, cursorNext_val hc, rfl, rfl⟩

/-- A compaction brings the byte at the cursor, and what lies behind it, to the front (R60). -/
theorem State.getElem_compactCursor (s : State) {j : Nat} (hj : s.cur.val + j < 28) :
    s.compactCursor.w[j] = s.w[s.cur.val + j] := by
  simpa using compact_moved _ _ s.w hj

/-- The effect of both compacting transitions, byte by byte, from a cursor past the front. -/
theorem State.compactCursor_spec {s : State} (hb : s.busy = true) (h0 : s.cur ≠ 0) :
    s.compactCursor = { s with w := s.compactCursor.w, need := s.cur, cur := 0 }
    ∧ (∀ (j : Nat) (hj : s.cur.val + j < 28), s.compactCursor.w[j] = s.w[s.cur.val + j])
    ∧ (∀ j : Fin 28, 28 ≤ s.cur.val + j.val → s.compactCursor.w[j] = s.w[j])
    ∧ (s.compactCursor.rstIn = false → s.compactCursor.rxReady = true) := by
  refine ⟨rfl, fun j hj => s.getElem_compactCursor hj, fun j hj => ?_, fun hr => ?_⟩
  · simpa using compact_tail _ s.w j.isLt hj
  · exact State.rxReady_of_need hr (by simpa using hb) (by simpa using h0)

/-- Settles O21: a start marker at cursor 25 to 27 is compacted to the front. -/
theorem cshortCompacts : Obligations.CshortCompacts := fun s hc hb hn h1 hr =>
  ⟨s.compactCursor, exec_of_selects (State.selects_cshort hb hn hc h1 hr) rfl,
    State.compactCursor_spec hb (State.cur_ne_zero_of_le hr)⟩

/-- Settles O22: NOCOMP is picked, and a cursor below 28 moves on by one. -/
theorem nocompAdvances : Obligations.NocompAdvances := fun s hr hb hn h1 h2 =>
  ⟨s.setCur (cursorNext s.cur), exec_of_selects (State.selects_nocomp hb hn hr h1 h2) rfl, rfl,
    cursorNext_val (by omega), rfl, rfl⟩

/-- Settles O23: a candidate past the front is compacted to the front. -/
theorem cunalCompacts : Obligations.CunalCompacts := fun s hr hb hn h1 h2 h0 =>
  ⟨s.compactCursor, exec_of_selects (State.selects_cunal hb hn hr h1 h2 h0) rfl, State.compactCursor_spec hb h0⟩

/-- Settles O24: ENDFAIL is picked and writes the cursor alone. -/
theorem endfailAdvances : Obligations.EndfailAdvances := fun s hb hn h0 h1 h2 h3 =>
  ⟨s.setCur 1, exec_of_selects (State.selects_endfail hb hn h0 h1 h2 h3) rfl, rfl, rfl, rfl⟩

/-- Settles O25: ACCEPT is picked and makes its five assignments; `snap_valid` is 1 in the step that fetches it. -/
theorem acceptDelivers : Obligations.AcceptDelivers := by
  unfold Obligations.AcceptDelivers
  intro s hb hn h0 h1 h2 h3
  have hi : decodeSel s.selector = some .accept := State.selects_accept hb hn h0 h1 h2 h3
  refine ⟨s.acceptFrame (decFrame s.w), exec_of_selects hi rfl, rfl, by simp [State.busyOut], by simp [State.rxReady],
    State.snapValid_of_idle rfl, ?_⟩
  rintro hl ⟨start, offer, hm⟩
  exact State.snapValid_iff.mpr (by rw [State.fetch_sync hm hl, hi])

end Sys2Proof.Machine
end

section
/-! SUPPORT. The laws of the stream (R158, R159): the positions at which the three tests pass or fail, the first
matches, and that every step keeps the window mirror and the first-match invariant. -/

namespace Sys2Proof.Safety

open Sys2Proof.Machine

/-! ## Positions of the stream -/

theorem getElem_frameAt (T : List Byte) (o : Nat) {j : Nat} (hj : j < 28) : (frameAt T o)[j] = T.getD (o + j) 0 := by
  simp [frameAt]

/-- The 28 bytes at a position stay what they are when the stream goes on. -/
theorem frameAt_append {T : List Byte} {o : Nat} (h : o + 28 ≤ T.length) (X : List Byte) :
    frameAt (T ++ X) o = frameAt T o := by
  refine Vector.ext fun j hj => ?_
  rw [getElem_frameAt _ _ hj, getElem_frameAt _ _ hj, List.getD_append _ _ _ _ (by omega)]

theorem getElem?_of_le {T : List Byte} {o : Nat} (h : o + 28 ≤ T.length) {j : Nat} (hj : j < 28) :
    T[o + j]? = some (frameAt T o)[j] := by
  have hlt : o + j < T.length := by omega
  rw [getElem_frameAt _ _ hj, List.getD_eq_getElem _ _ hlt, List.getElem?_eq_getElem hlt]

/-- The three tests pass at a position exactly where its 28 bytes are there and form a valid frame. -/
theorem matchesAt_iff {T : List Byte} {o : Nat} :
    matchesAt T o = true ↔ o + 28 ≤ T.length ∧ validFrame (frameAt T o) = true := by
  by_cases h : o + 28 ≤ T.length
  · have h0 : T[o]? = some (frameAt T o)[0] := getElem?_of_le h (j := 0) (by omega)
    simp [matchesAt, validFrame, h, h0, getElem?_of_le h]
  · have h27 : T[o + 27]? = none := List.getElem?_eq_none (by omega)
    simp [matchesAt, h, h27]

/-- A match stays a match, and a position whose 28 bytes are there never becomes one. -/
theorem matchesAt_append {T : List Byte} {o : Nat} (h : o + 28 ≤ T.length) (X : List Byte) :
    matchesAt (T ++ X) o = matchesAt T o := by
  have hX : o + 28 ≤ (T ++ X).length := by rw [List.length_append]; omega
  rw [Bool.eq_iff_iff, matchesAt_iff, matchesAt_iff, frameAt_append h]
  simp only [h, hX]

theorem refutedAt_iff {T : List Byte} {o : Nat} :
    refutedAt T o = true ↔
      (∃ a, T[o]? = some a ∧ a ≠ 0x01)
      ∨ (∃ a b, T[o + 2]? = some a ∧ T[o + 3]? = some b ∧ a ^^^ b ≠ 0xFF)
      ∨ ∃ a, T[o + 27]? = some a ∧ a ≠ 0x04 := by
  simp only [refutedAt, Bool.or_eq_true, or_assoc]
  refine or_congr ?start (or_congr ?pair ?stop)
  case start => cases T[o]? <;> simp
  case pair => cases T[o + 2]? <;> cases T[o + 3]? <;> simp
  case stop => cases T[o + 27]? <;> simp

/-- A test that failed has failed for good. -/
theorem refutedAt_append {T : List Byte} {o : Nat} (h : refutedAt T o = true) (X : List Byte) :
    refutedAt (T ++ X) o = true := by
  have keep {i : Nat} {a : Byte} (hi : T[i]? = some a) : (T ++ X)[i]? = some a := by
    rw [List.getElem?_append_left (List.getElem?_eq_some_iff.mp hi).1, hi]
  rw [refutedAt_iff] at h ⊢
  obtain ⟨a, ha, hne⟩ | ⟨a, b, ha, hb, hne⟩ | ⟨a, ha, hne⟩ := h
  · exact .inl ⟨a, keep ha, hne⟩
  · exact .inr (.inl ⟨a, b, keep ha, keep hb, hne⟩)
  · exact .inr (.inr ⟨a, keep ha, hne⟩)

/-- Where a test has failed there is no match. -/
theorem matchesAt_of_refutedAt {T : List Byte} {o : Nat} (h : refutedAt T o = true) : matchesAt T o = false := by
  rw [Bool.eq_false_iff]
  intro hmatch
  obtain ⟨hlen, hv⟩ := matchesAt_iff.mp hmatch
  obtain ⟨h0, h23, h27⟩ := validFrame_iff.mp hv
  have byte {j : Nat} (hj : j < 28) {a : Byte} (ha : T[o + j]? = some a) : (frameAt T o)[j] = a :=
    Option.some.inj ((getElem?_of_le hlen hj).symm.trans ha)
  obtain ⟨a, ha, hne⟩ | ⟨a, b, ha, hb, hne⟩ | ⟨a, ha, hne⟩ := refutedAt_iff.mp h
  · exact hne (byte (j := 0) (by omega) ha ▸ h0)
  · exact hne (byte (by omega) ha ▸ byte (by omega) hb ▸ h23)
  · exact hne (byte (by omega) ha ▸ h27)

/-! ## The first matches -/

/-- The end of the last accepted frame, `e` where none has been accepted. -/
def endAfter (e : Nat) (ds : List Delivery) : Nat := ds.foldl (fun _ d => d.taken) e

@[simp] theorem endAfter_nil (e : Nat) : endAfter e [] = e := rfl

@[simp] theorem endAfter_cons (e : Nat) (d : Delivery) (ds : List Delivery) :
    endAfter e (d :: ds) = endAfter d.taken ds := rfl

/-- The `e(n)` of R159 is the end of the last accepted frame, the search having begun at 0. -/
theorem lastEnd_eq_endAfter (ds : List Delivery) : lastEnd ds = endAfter 0 ds := by
  induction ds with
  | nil => rfl
  | cons d ds ih =>
    cases ds with
    | nil => rfl
    | cons d' ds => exact ih

@[simp] theorem lastEnd_concat (ds : List Delivery) (d : Delivery) : lastEnd (ds ++ [d]) = d.taken := by
  rw [lastEnd_eq_endAfter, endAfter, List.foldl_append]
  rfl

/-- The first matches stay the first matches when the stream goes on. -/
theorem firstMatches_append {T : List Byte} {e : Nat} {ds : List Delivery} (h : firstMatches T e ds) (X : List Byte) :
    firstMatches (T ++ X) e ds := by
  induction ds generalizing e with
  | nil => trivial
  | cons d ds ih =>
    obtain ⟨o, he, ho, hleast, htaken, hsnap, hrest⟩ := h
    have hlen : o + 28 ≤ T.length := (matchesAt_iff.mp ho).1
    refine ⟨o, he, by rw [matchesAt_append hlen, ho], fun p hp hpo => ?_, htaken, ?_, ih hrest⟩
    · rw [matchesAt_append (by omega), hleast p hp hpo]
    · rw [hsnap, frameAt_append hlen]

/-- The next match after the last accepted frame is the next of the first matches. -/
theorem firstMatches_concat {T : List Byte} {e o : Nat} {ds : List Delivery} (h : firstMatches T e ds)
    (ho : matchesAt T o = true) (hle : endAfter e ds ≤ o)
    (hleast : ∀ p, endAfter e ds ≤ p → p < o → matchesAt T p = false) :
    firstMatches T e (ds ++ [⟨o + 28, decFrame (frameAt T o)⟩]) := by
  induction ds generalizing e with
  | nil => exact ⟨o, hle, ho, hleast, rfl, rfl, trivial⟩
  | cons d ds ih =>
    obtain ⟨q, he, hq, hqleast, htaken, hsnap, hrest⟩ := h
    rw [endAfter_cons, htaken] at hle hleast
    exact ⟨q, he, hq, hqleast, htaken, hsnap, ih hrest hle hleast⟩

/-! ## The window mirror (R158) -/

section
variable {s t u : State}

theorem Mirror.getElem? (h : Mirror s) {j : Nat} (hj : j < 28) (hv : j < 28 - s.need.val) :
    s.given[base s + j]? = some s.w[j] :=
  h.bytes ⟨j, hj⟩ hv

/-- While the window is scanned all of it is valid: it is the last 28 bytes taken. -/
theorem Mirror.base_add (h : Mirror s) (hn : s.need = 0) : base s + 28 = s.given.length := by
  have henough := h.enough
  simp only [hn, Fin.val_zero] at henough
  simp only [base, hn, Fin.val_zero]
  omega

theorem Mirror.getElem?_scanned (h : Mirror s) (hn : s.need = 0) {j : Nat} (hj : j < 28) :
    s.given[base s + j]? = some s.w[j] :=
  h.getElem? hj (by simpa [hn] using hj)

theorem Mirror.frameAt_base (h : Mirror s) (hn : s.need = 0) : frameAt s.given (base s) = s.w :=
  Vector.ext fun j hj => by
    rw [getElem_frameAt _ _ hj, List.getD_eq_getElem?_getD, h.getElem?_scanned hn hj, Option.getD_some]

/-- The mirror is a matter of the window, `NEED` and the bytes taken. -/
theorem Mirror.congr (h : Mirror s) (hw : t.w = s.w) (hn : t.need = s.need) (hg : t.given = s.given) : Mirror t := by
  obtain ⟨henough, hbytes⟩ := h
  refine ⟨by rwa [hn, hg], fun j hj => ?_⟩
  rw [hn] at hj
  simpa only [base, hn, hg, hw] using hbytes j hj

/-- With a whole window needed, no byte is valid. -/
theorem Mirror.of_need_full (hn : t.need = 28) : Mirror t where
  enough := by simp [hn]
  bytes := fun j hj => by simp [hn] at hj

theorem base_of_need_full (hn : t.need = 28) : base t = t.given.length := by simp [base, hn]

/-- FILL leaves the position of the window's front where it is. -/
theorem base_takeByte (hn : s.need ≠ 0) (b : Byte) : base (s.takeByte b) = base s := by
  have hpos : s.need.val ≠ 0 := Fin.val_ne_zero_iff.mpr hn
  simp only [base, State.takeByte_given, State.takeByte_need, needPred_val, List.length_append, List.length_singleton]
  omega

/-- FILL makes the byte taken the last valid one. -/
theorem Mirror.takeByte (h : Mirror s) (hn : s.need ≠ 0) (b : Byte) : Mirror (s.takeByte b) := by
  have hpos : s.need.val ≠ 0 := Fin.val_ne_zero_iff.mpr hn
  have henough := h.enough
  refine ⟨?_, fun j hj => ?_⟩
  · simp only [State.takeByte_given, State.takeByte_need, needPred_val, List.length_append, List.length_singleton]
    omega
  · rw [State.takeByte_need, needPred_val] at hj
    rw [base_takeByte hn, State.takeByte_given]
    by_cases hnew : 28 - s.need.val = j.val
    · have hend : base s + j.val = s.given.length := by simp only [base]; omega
      simp [hend, hnew]
    · have hold : s.given[base s + j.val]? = some s.w[j] := h.bytes j (by omega)
      rw [List.getElem?_append_left (List.getElem?_eq_some_iff.mp hold).1, hold]
      simp [hnew]

/-- A compaction brings the cursor's position to the front. -/
theorem base_compactCursor (h : Mirror s) (hn : s.need = 0) : base s.compactCursor = base s + s.cur.val := by
  have hbase := h.base_add hn
  simp only [base, State.compactCursor_given, State.compactCursor_need] at hbase ⊢
  simp only [hn, Fin.val_zero] at hbase ⊢
  omega

theorem Mirror.compactCursor (h : Mirror s) (hn : s.need = 0) : Mirror s.compactCursor := by
  have hbase := h.base_add hn
  refine ⟨?_, fun j hj => ?_⟩
  · rw [State.compactCursor_given]
    omega
  · rw [State.compactCursor_need] at hj
    have hmoved : s.compactCursor.w[j] = s.w[s.cur.val + j.val] := s.getElem_compactCursor (by omega)
    rw [base_compactCursor h hn, State.compactCursor_given, hmoved, Nat.add_assoc]
    exact h.getElem?_scanned hn (by omega)

end

end Sys2Proof.Safety

namespace Sys2Proof.Machine

open Sys2Proof.Safety

/-- Every case of a Synchronizer step keeps the mirror: FILL and the compactions move it on, WRESET and ACCEPT give
the window up, the others change neither the window nor what is valid of it. -/
theorem SyncStep.mirror {s u : State} (h : SyncStep s u) (hm : Mirror s) : Mirror u := by
  cases h with
  | idle | wait => exact hm
  | start | skip | nocomp | endfail => exact hm.congr rfl rfl rfl
  | fill b _ hn => exact hm.takeByte hn b
  | cshort _ hn | cunal _ hn => exact hm.compactCursor hn
  | wreset | accept => exact .of_need_full rfl

end Sys2Proof.Machine

namespace Sys2Proof.Safety

open Sys2Proof.Machine

/-! ## The search (R159) -/

section
variable {s t u : State}

/-- Where the block is idle and no byte has been taken nor a Snapshot delivered, nothing has been searched. -/
theorem SearchInv.of_nothing_taken (hb : t.busy = false) (hn : t.need = 28) (hc : t.cur = 0) (hg : t.given = [])
    (hd : t.delivered = []) : SearchInv t where
  window := ⟨(State.legal_of_idle hb).mpr ⟨hn, hc⟩, .of_need_full hn⟩
  order := by simp [hd, lastEnd]
  searched := fun o _ ho => by simp [base_of_need_full hn, hg, hc] at ho
  deliveries := by rw [hd]; trivial

/-- The invariant is a matter of the block's registers but `RXSNAP`, of the bytes taken and of the deliveries. -/
theorem SearchInv.congr (h : SearchInv s) (hw : t.w = s.w) (hc : t.cur = s.cur) (hn : t.need = s.need)
    (hb : t.busy = s.busy) (hg : t.given = s.given) (hd : t.delivered = s.delivered) : SearchInv t := by
  have hbase : base t = base s := by simp only [base, hg, hn]
  obtain ⟨⟨hl, hm⟩, horder, hsearched, hdel⟩ := h
  exact
    { window := ⟨by simpa only [State.legal, hn, hc, hb] using hl, hm.congr hw hn hg⟩
      order := by rwa [hd, hbase]
      searched := by rwa [hd, hbase, hc, hg]
      deliveries := by rwa [hd, hg] }

/-- A step without a delivery keeps the invariant where every position that it passes over has failed a test. -/
theorem SearchInv.advance (h : SearchInv s) (hw : WindowInv u) (hg : ∃ X, u.given = s.given ++ X)
    (hd : u.delivered = s.delivered) (hbase : base s ≤ base u)
    (hpassed : ∀ o, base s + s.cur.val ≤ o → o < base u + u.cur.val → refutedAt u.given o = true) : SearchInv u := by
  obtain ⟨X, hX⟩ := hg
  obtain ⟨-, horder, hsearched, hdel⟩ := h
  refine ⟨hw, by rw [hd]; omega, fun o ho hlt => ?_, by rw [hd, hX]; exact firstMatches_append hdel X⟩
  rw [hd] at ho
  by_cases hold : o < base s + s.cur.val
  · rw [hX]
    exact refutedAt_append (hsearched o ho hold) X
  · exact hpassed o (by omega) hlt

/-- A step that changes the cursor alone, by one, keeps the invariant where the cursor's position has failed a test. -/
theorem SearchInv.passCursor (h : SearchInv s) {c : Fin 29} (hw : WindowInv (s.setCur c))
    (hc : c.val = s.cur.val + 1) (hfail : refutedAt s.given (base s + s.cur.val) = true) : SearchInv (s.setCur c) := by
  refine h.advance hw ⟨[], (List.append_nil _).symm⟩ rfl le_rfl fun o hle hlt => ?_
  have hbase : base (s.setCur c) = base s := rfl
  rw [hbase, State.setCur_cur, hc] at hlt
  obtain rfl : o = base s + s.cur.val := by omega
  exact hfail

/-- A compaction passes over no position. -/
theorem SearchInv.compactCursor (h : SearchInv s) (hw : WindowInv s.compactCursor) (hn : s.need = 0) :
    SearchInv s.compactCursor := by
  have hbase := base_compactCursor h.window.mirror hn
  refine h.advance hw ⟨[], by simp⟩ (by simp) (by omega) fun o hle hlt => ?_
  simp [hbase] at hlt
  omega

/-- ACCEPT delivers the frame at the front, all positions before it having failed a test. -/
theorem SearchInv.acceptFrame (h : SearchInv s) (hw : WindowInv (s.acceptFrame (decFrame s.w))) (hn : s.need = 0)
    (h0 : s.cur = 0) (hv : validFrame s.w = true) : SearchInv (s.acceptFrame (decFrame s.w)) := by
  obtain ⟨⟨-, hm⟩, horder, hsearched, hdel⟩ := h
  have hlen := hm.base_add hn
  have hframe := hm.frameAt_base hn
  have hbase : base (s.acceptFrame (decFrame s.w)) = s.given.length := base_of_need_full rfl
  refine ⟨hw, by simp [hbase], fun o hle hlt => ?_, ?_⟩
  · simp [hbase] at hle hlt
    omega
  · rw [lastEnd_eq_endAfter] at horder hsearched
    have hmatch : matchesAt s.given (base s) = true := matchesAt_iff.mpr ⟨hlen.le, by rwa [hframe]⟩
    have hnext := firstMatches_concat hdel hmatch horder fun p hp hlt =>
      matchesAt_of_refutedAt (hsearched p hp (by omega))
    rwa [hframe, hlen] at hnext

end

end Sys2Proof.Safety

namespace Sys2Proof.Machine

open Sys2Proof.Safety

/-- Every case of a Synchronizer step keeps the first-match invariant. SKIP, NOCOMP and ENDFAIL pass over one position,
each with the test that fails there; FILL, WRESET and the compactions pass over none. -/
theorem SyncStep.searchInv {s u : State} (h : SyncStep s u) (hs : SearchInv s) : SearchInv u := by
  have hm : Mirror s := hs.window.mirror
  have hw : WindowInv u := ⟨h.legal hs.window.legal, h.mirror hm⟩
  cases h with
  | idle | wait => exact hs
  | start => exact hs.advance hw ⟨[], (List.append_nil _).symm⟩ rfl le_rfl fun o hle hlt => absurd hlt (Nat.not_lt.mpr hle)
  | fill b _ hn =>
    refine hs.advance hw ⟨[b], rfl⟩ rfl (base_takeByte hn b).ge fun o hle hlt => ?_
    rw [base_takeByte hn] at hlt
    exact absurd hlt (Nat.not_lt.mpr hle)
  | wreset _ hn hc =>
    have hlen := hm.base_add hn
    have hbase : base s.refill = s.given.length := base_of_need_full rfl
    refine hs.advance hw ⟨[], (List.append_nil _).symm⟩ rfl (by omega) fun o hle hlt => ?_
    simp [hbase, hc] at hle hlt
    omega
  | skip _ hn hc h1 =>
    exact hs.passCursor hw (cursorNext_val hc)
      (refutedAt_iff.mpr (.inl ⟨_, hm.getElem?_scanned hn hc, h1⟩))
  | nocomp _ hn hr h1 h2 =>
    have h2' := hm.getElem?_scanned hn (show s.cur.val + 2 < 28 by omega)
    have h3' := hm.getElem?_scanned hn hr
    exact hs.passCursor hw (cursorNext_val (by omega)) (refutedAt_iff.mpr (.inr (.inl ⟨_, _, h2', h3', h2⟩)))
  | endfail _ hn h0 _ _ h3 =>
    have hfail : refutedAt s.given (base s) = true :=
      refutedAt_iff.mpr (.inr (.inr ⟨_, hm.getElem?_scanned hn (by omega), h3⟩))
    exact hs.passCursor hw (by simp [h0]) (by simpa [h0] using hfail)
  | cshort _ hn | cunal _ hn => exact hs.compactCursor hw hn
  | accept _ hn h0 h1 h2 h3 => exact hs.acceptFrame hw hn h0 (validFrame_iff.mpr ⟨h1, h2, h3⟩)

/-- Reset begins a new stream. -/
theorem searchInv_resetBlock (s : State) : SearchInv s.resetBlock :=
  .of_nothing_taken (by simp) (by simp) (by simp) (by simp) (by simp)

/-- Settles O44: beside the Synchronizer only `rst` writes the window, and then no byte of it is valid. -/
theorem stepKeepsTheWindowMirror : Obligations.StepKeepsTheWindowMirror := by
  unfold Obligations.StepKeepsTheWindowMirror
  rintro s t ⟨hl, hm⟩ h
  refine ⟨stepKeepsTheControlInvariant s t hl h, ?_⟩
  obtain ⟨-, rfl⟩ | ⟨w, i, r, -, -, -, rfl⟩ | ⟨a, o, u, -, -, hu, rfl⟩ | ⟨-, -, rfl⟩ := step_cases h
  · exact (searchInv_resetBlock s).window.mirror.congr rfl rfl rfl
  · exact hm.congr rfl rfl rfl
  · exact (hu.mirror hm).congr rfl rfl rfl
  · exact hm.congr rfl rfl rfl

/-- Settles O45: beside the Synchronizer only `rst` writes what the invariant speaks of, and it begins a new stream. -/
theorem stepKeepsFirstMatch : Obligations.StepKeepsFirstMatch := by
  unfold Obligations.StepKeepsFirstMatch
  intro s t hs h
  obtain ⟨-, rfl⟩ | ⟨w, i, r, -, -, -, rfl⟩ | ⟨a, o, u, -, -, hu, rfl⟩ | ⟨-, -, rfl⟩ := step_cases h
  · exact (searchInv_resetBlock s).congr rfl rfl rfl rfl rfl rfl
  · exact hs.congr rfl rfl rfl rfl rfl rfl
  · exact (hu.searchInv hs).congr rfl rfl rfl rfl rfl rfl
  · exact hs.congr rfl rfl rfl rfl rfl rfl

end Sys2Proof.Machine
end

section
/-! SUPPORT. Runs of the Synchronizer (R160 to R164): what every move of a run is, when a scan ends, the first
delivery, the embedded frame that is found, the shift register, and the deliveries of every run from reset. -/

namespace Sys2Proof.Machine

open Sys2Proof.Safety

/-! ## Runs and the moves that come -/

/-- A run of one step more begins with a step that answers. -/
theorem run_succ_eq_next {n : Nat} {s t : State} (h : Host.Core.run core (n + 1) s = .next t) :
    ∃ u, step s = .next u ∧ Host.Core.run core n u = .next t := by
  cases hs : step s with
  | next u => exact ⟨u, rfl, by rwa [run_succ_of_step hs] at h⟩
  | fault r => cases r
  | refused r =>
    have hcore : core.step s = .refused r := hs
    simp [Host.Core.run, hcore] at h

/-- What every step keeps, every run keeps. -/
theorem run_keeps {I : State → Prop} (hstep : ∀ s t, I s → step s = .next t → I t) {n : Nat} {s t : State} (hs : I s)
    (h : Host.Core.run core n s = .next t) : I t := by
  induction n generalizing s with
  | zero => cases h; exact hs
  | succ n ih =>
    obtain ⟨u, hu, hrun⟩ := run_succ_eq_next h
    exact ih (hstep s u hs hu) hrun

/-- Where every step from a state with `P` comes to `Q`, or again to `P` with a higher rank, and `P` bounds the rank, a
run of at most as many steps as the rank can rise, and one more, comes to `Q`. -/
theorem run_until {P Q : State → Prop} {rank : State → Nat} {bound : Nat} (hbound : ∀ s, P s → rank s ≤ bound)
    (hstep : ∀ s, P s → ∃ t, step s = .next t ∧ (Q t ∨ P t ∧ rank s < rank t)) {s : State} (hs : P s) :
    ∃ n t, n + rank s ≤ bound + 1 ∧ Host.Core.run core n s = .next t ∧ Q t := by
  have hle := hbound s hs
  obtain ⟨t, ht, hQ | ⟨hP, hlt⟩⟩ := hstep s hs
  · exact ⟨1, t, by omega, run_succ_of_step ht 0, hQ⟩
  · have hle' := hbound t hP
    obtain ⟨n, u, hn, hu, hQ⟩ := run_until hbound hstep hP
    exact ⟨n + 1, u, by omega, by rw [run_succ_of_step ht, hu], hQ⟩
termination_by bound - rank s

/-- All moves that are listed have the property. -/
def State.EveryMove (P : Move → Prop) (s : State) : Prop := ∀ m ∈ s.script ++ s.habit, P m

section
variable {P : Move → Prop} {s t : State}

/-- The coming move has the property, if the default move has. -/
theorem State.EveryMove.move (h : s.EveryMove P) (hdefault : P (.sync false true)) : P s.move := by
  obtain ⟨-, hm⟩ | hm := State.move_cases s
  · rwa [hm]
  · exact h _ (List.mem_append.mpr (State.mem_queue hm))

/-- A step makes its move and leaves the moves that come after it. -/
theorem step_moves (h : step s = .next t) : t.script = s.queue.tail ∧ t.habit = s.habit := by
  obtain ⟨-, rfl⟩ | ⟨w, i, r, -, -, -, rfl⟩ | ⟨a, o, u, -, -, hu, rfl⟩ | ⟨-, -, rfl⟩ := step_cases h
  · simp
  · simp
  · exact ⟨by rw [State.popMove_script, hu.queue], hu.habit⟩
  · simp

theorem State.EveryMove.step (h : s.EveryMove P) (hst : Machine.step s = .next t) : t.EveryMove P := by
  obtain ⟨hscript, hhabit⟩ := step_moves hst
  intro m hm
  rw [hscript, hhabit, List.mem_append] at hm
  obtain hm | hm := hm
  · exact h m (List.mem_append.mpr (State.mem_queue (List.mem_of_mem_tail hm)))
  · exact h m (List.mem_append_right _ hm)

end

/-! ## A scan ends (R162) -/

/-- A Synchronizer step in a scan takes no byte; it asks for bytes, or it moves the cursor on by one. -/
theorem SyncStep.scan {s u : State} (h : SyncStep s u) (hb : s.busy = true) (hn : s.need = 0) :
    u.given = s.given ∧ (u.need ≠ 0 ∨ u.busy = true ∧ u.need = 0 ∧ u.cur.val = s.cur.val + 1) := by
  cases h with
  | idle hidle | start hidle => simp [hb] at hidle
  | wait _ hneed | fill _ _ hneed => exact absurd hn hneed
  | wreset | accept => exact ⟨rfl, .inl (by simp)⟩
  | skip _ _ hc => exact ⟨rfl, .inr ⟨hb, hn, cursorNext_val hc⟩⟩
  | nocomp _ _ hr => exact ⟨rfl, .inr ⟨hb, hn, cursorNext_val (by omega)⟩⟩
  | endfail _ _ h0 => exact ⟨rfl, .inr ⟨hb, hn, by simp [h0]⟩⟩
  | cshort _ _ _ _ hr => exact ⟨by simp, .inl (by simpa using State.cur_ne_zero_of_le hr)⟩
  | cunal _ _ _ _ _ h0 => exact ⟨by simp, .inl (by simpa using h0)⟩

/-- A scan of the stream `given` under Synchronizer steps alone. -/
structure Scan (given : List Byte) (s : State) : Prop where
  busy : s.busy = true
  need : s.need = 0
  moves : s.EveryMove fun m => ∃ start offer, m = .sync start offer
  given : s.given = given

/-- The scan goes on with a higher cursor, or it has ended. -/
theorem Scan.step {g : List Byte} {s : State} (h : Scan g s) :
    ∃ t, step s = .next t ∧ ((t.need ≠ 0 ∧ t.given = g) ∨ Scan g t ∧ s.cur.val < t.cur.val) := by
  obtain ⟨hb, hn, hmoves, hg⟩ := h
  obtain ⟨a, o, hm⟩ := hmoves.move ⟨false, true, rfl⟩
  obtain ⟨u, hu, hstep⟩ := step_sync hm ((State.legal_of_busy hb).mpr (.inl hn))
  obtain ⟨hgiven, hneed | ⟨hbusy, hneed, hcur⟩⟩ := hu.scan hb hn
  · exact ⟨_, hstep, .inl ⟨hneed, hgiven.trans hg⟩⟩
  · refine ⟨_, hstep, .inr ⟨⟨hbusy, hneed, hmoves.step hstep, hgiven.trans hg⟩, ?_⟩⟩
    rw [State.popMove_cur, hcur]
    exact Nat.lt_succ_self _

/-- Settles O47: each step of a scan raises the cursor, which is at most 28, or ends the scan. -/
theorem scanEndsWithin29Steps : Obligations.ScanEndsWithin29Steps := by
  unfold Obligations.ScanEndsWithin29Steps
  intro s _ hb hn hmoves
  obtain ⟨n, t, hle, hrun, hneed, hg⟩ := run_until (P := Scan s.given) (rank := fun s => s.cur.val) (bound := 28)
    (fun s _ => Nat.le_of_lt_succ s.cur.isLt) (fun _ h => h.step) ⟨hb, hn, hmoves, rfl⟩
  exact ⟨n, t, by omega, hrun, hneed, hg⟩

end Sys2Proof.Machine

namespace Sys2Proof.Safety

open Sys2Proof.Machine

/-! ## The first delivery (R160) -/

/-- The frame at the end of the junk. -/
theorem frameAt_embedded (junk rest : List Byte) (F : Frame) : frameAt (junk ++ F.toList ++ rest) junk.length = F := by
  refine Vector.ext fun j hj => ?_
  simp [getElem_frameAt _ _ hj, List.getD_eq_getElem?_getD, List.getElem?_append, hj]

theorem matchesAt_embedded (junk rest : List Byte) {F : Frame} (hF : validFrame F = true) :
    matchesAt (junk ++ F.toList ++ rest) junk.length = true :=
  matchesAt_iff.mpr ⟨by simp, by rwa [frameAt_embedded]⟩

/-- The first of the first matches of what has been taken is the first match of the stream. -/
theorem firstMatches_head {T X : List Byte} {k : Nat} {d : Delivery} {ds : List Delivery}
    (h : firstMatches T 0 (d :: ds)) (hk : matchesAt (T ++ X) k = true)
    (hjunk : ∀ o, o < k → matchesAt (T ++ X) o = false) : d = ⟨k + 28, decFrame (frameAt (T ++ X) k)⟩ := by
  obtain ⟨o, -, ho, hleast, htaken, hsnap, -⟩ := h
  have hlen : o + 28 ≤ T.length := (matchesAt_iff.mp ho).1
  have hko : ¬ o < k := fun hlt => by
    simpa [matchesAt_append hlen, ho] using hjunk o hlt
  have hok : ¬ k < o := fun hlt => by
    have hfail := hleast k (Nat.zero_le k) hlt
    rw [← matchesAt_append (by omega) X, hk] at hfail
    cases hfail
  obtain rfl : o = k := by omega
  rw [frameAt_append hlen, ← htaken, ← hsnap]

/-- Settles O48: the frame is the first match of the stream. -/
theorem firstDeliveryIsTheFirstFrame : Obligations.FirstDeliveryIsTheFirstFrame := by
  unfold Obligations.FirstDeliveryIsTheFirstFrame
  intro s junk rest F d ds hs hstream hF hjunk hd
  have hk : matchesAt (s.given ++ s.rx) junk.length = true := hstream ▸ matchesAt_embedded junk rest hF
  have hfirst : firstMatches s.given 0 (d :: ds) := hd ▸ hs.deliveries
  rw [firstMatches_head hfirst hk hjunk, hstream, frameAt_embedded]

/-- While a byte is needed, all of what has been taken has been searched. -/
theorem SearchInv.matchesAt_eq_false {s : State} (h : SearchInv s) (hn : s.need ≠ 0) {o : Nat}
    (ho : lastEnd s.delivered ≤ o) : matchesAt s.given o = false := by
  have hpos : s.need.val ≠ 0 := Fin.val_ne_zero_iff.mpr hn
  by_cases hlt : o < base s
  · exact matchesAt_of_refutedAt (h.searched o ho (by omega))
  · rw [Bool.eq_false_iff]
    intro hmatch
    have hlen := (matchesAt_iff.mp hmatch).1
    simp only [base] at hlt
    omega

end Sys2Proof.Safety

namespace Sys2Proof.Machine

open Sys2Proof.Safety

/-! ## The embedded frame is found (R160) -/

/-- The byte taken weighs more than the one less that is needed. -/
theorem effort_lt_takeByte {s : State} (hn : s.need ≠ 0) (b : Byte) : effort s < effort (s.takeByte b) := by
  have hpos : s.need.val ≠ 0 := Fin.val_ne_zero_iff.mpr hn
  simp only [effort, State.takeByte_given, State.takeByte_cur, State.takeByte_need, needPred_val,
    List.length_append, List.length_singleton]
  omega

/-- A compaction asks for as many bytes as the cursor had passed, and a byte needed weighs more than a position. -/
theorem effort_lt_compactCursor {s : State} (hn : s.need = 0) (h0 : s.cur ≠ 0) :
    effort s < effort s.compactCursor := by
  have hpos : s.cur.val ≠ 0 := Fin.val_ne_zero_iff.mpr h0
  simp only [effort, State.compactCursor_given, State.compactCursor_cur, State.compactCursor_need, hn, Fin.val_zero]
  omega

/-- While an invocation runs and a byte is offered when one is needed, each Synchronizer step but ACCEPT raises the
effort, the invocation running on with nothing delivered. -/
theorem SyncStep.accepts_or_effort_lt {s u : State} (h : SyncStep s u) (hb : s.busy = true)
    (ho : s.need ≠ 0 → s.offered ≠ none) :
    u = s.acceptFrame (decFrame s.w) ∨ (u.busy = true ∧ u.delivered = s.delivered ∧ effort s < effort u) := by
  cases h with
  | idle hidle | start hidle => simp [hb] at hidle
  | wait _ hn hnone => exact absurd hnone (ho hn)
  | fill b _ hn => exact .inr ⟨hb, rfl, effort_lt_takeByte hn b⟩
  | wreset _ hn hc => exact .inr ⟨hb, rfl, by simp [effort, hn, hc]⟩
  | skip _ _ hc => exact .inr ⟨hb, rfl, by simp [effort, cursorNext_val hc]⟩
  | nocomp _ _ hr => exact .inr ⟨hb, rfl, by simp [effort, cursorNext_val (show s.cur.val < 28 by omega)]⟩
  | endfail _ _ h0 => exact .inr ⟨hb, rfl, by simp [effort, h0]⟩
  | cshort _ hn _ _ hr =>
    exact .inr ⟨by simpa using hb, by simp, effort_lt_compactCursor hn (State.cur_ne_zero_of_le hr)⟩
  | cunal _ hn _ _ _ h0 => exact .inr ⟨by simpa using hb, by simp, effort_lt_compactCursor hn h0⟩
  | accept => exact .inl rfl

/-- An invocation that has delivered nothing runs on the stream, no move being listed. -/
structure Awaiting (stream : List Byte) (s : State) : Prop where
  busy : s.busy = true
  inv : SearchInv s
  delivered : s.delivered = []
  script : s.script = []
  habit : s.habit = []
  stream : s.given ++ s.rx = stream

/-- The embedded frame has been delivered, and it and the junk before it have been taken. -/
structure Found (junk rest : List Byte) (F : Frame) (t : State) : Prop where
  delivered : t.delivered = [⟨junk.length + 28, decFrame F⟩]
  rxsnap : t.rxsnap = decFrame F
  given : t.given = junk ++ F.toList
  rx : t.rx = rest
  busy : t.busy = false

section
variable {junk rest : List Byte} {F : Frame} {s t : State}

/-- The first delivery finds the frame. -/
theorem Found.of_deliver (hF : validFrame F = true)
    (hjunk : ∀ o, o < junk.length → matchesAt (junk ++ F.toList ++ rest) o = false) (hs : SearchInv t)
    (hstream : t.given ++ t.rx = junk ++ F.toList ++ rest) (hd : t.delivered = [⟨t.given.length, t.rxsnap⟩])
    (hb : t.busy = false) : Found junk rest F t := by
  have hfirst := firstDeliveryIsTheFirstFrame t junk rest F _ [] hs hstream hF (by rwa [hstream]) hd
  obtain ⟨htaken, hsnap⟩ := Delivery.mk.inj hfirst
  obtain ⟨hgiven, hrx⟩ := List.append_inj hstream (by simpa using htaken)
  exact ⟨by rw [hd, htaken, hsnap], hsnap, hgiven, hrx, hb⟩

/-- As long as nothing has been delivered the frame has not been taken as a whole, or it is being scanned: a byte that
is needed is there. -/
theorem Awaiting.offered_ne_none (h : Awaiting (junk ++ F.toList ++ rest) s) (hF : validFrame F = true)
    (hn : s.need ≠ 0) : s.offered ≠ none := by
  obtain ⟨-, hinv, hd, hscript, hhabit, hstream⟩ := h
  have hrx : s.rx ≠ [] := by
    intro hrx
    rw [hrx, List.append_nil] at hstream
    have hno := hinv.matchesAt_eq_false hn (o := junk.length) (by simp [hd, lastEnd])
    rw [hstream, matchesAt_embedded junk rest hF] at hno
    cases hno
  simpa [State.offered, State.move_nil hscript hhabit] using hrx

/-- ACCEPT finds the frame; every other step raises the effort. -/
theorem Awaiting.step (h : Awaiting (junk ++ F.toList ++ rest) s) (hF : validFrame F = true)
    (hjunk : ∀ o, o < junk.length → matchesAt (junk ++ F.toList ++ rest) o = false) :
    ∃ t, step s = .next t
      ∧ (Found junk rest F t ∨ Awaiting (junk ++ F.toList ++ rest) t ∧ effort s < effort t) := by
  have ho := h.offered_ne_none hF
  obtain ⟨hb, hinv, hd, hscript, hhabit, hstream⟩ := h
  obtain ⟨u, hu, hstep⟩ := step_sync (State.move_nil hscript hhabit) hinv.window.legal
  have hinv' : SearchInv u.popMove := stepKeepsFirstMatch s _ hinv hstep
  have hstream' : u.popMove.given ++ u.popMove.rx = junk ++ F.toList ++ rest := hu.stream.trans hstream
  obtain ⟨hscript', hhabit'⟩ := step_moves hstep
  refine ⟨_, hstep, ?_⟩
  obtain rfl | ⟨hb', hd', hlt⟩ := hu.accepts_or_effort_lt hb ho
  · exact .inl (.of_deliver hF hjunk hinv' hstream' (by simp [hd]) rfl)
  · refine .inr ⟨⟨hb', hinv', hd'.trans hd, ?_, hhabit'.trans hhabit, hstream'⟩, hlt⟩
    rw [hscript', State.queue_nil hscript, hhabit, List.tail_nil]

/-- The effort is bounded by the bytes that there are. -/
theorem Awaiting.effort_le {stream : List Byte} (h : Awaiting stream s) : effort s ≤ 3 * stream.length + 84 := by
  have hlen : s.given.length ≤ stream.length := by
    rw [← h.stream, List.length_append]
    omega
  have := Machine.effort_le s
  omega

/-- From reset, whatever the transport holds and whatever moves come, the invariant holds. -/
theorem searchInv_reset (stream : List Byte) (moves habit : List Move) :
    SearchInv { State.reset with rx := stream, script := moves, habit := habit } :=
  .of_nothing_taken rfl rfl rfl rfl rfl

/-- START leads from reset into the search. -/
theorem awaiting_after_start {stream : List Byte}
    (hs : s = { State.reset with rx := stream, script := [.sync true true] }) :
    ∃ t, step s = .next t ∧ Awaiting stream t := by
  have hm : s.move = .sync true true := State.move_cons (by rw [hs])
  have hinv : SearchInv s := hs ▸ searchInv_reset stream [.sync true true] []
  obtain ⟨-, hstep⟩ := step_start hm hinv.window.legal (by rw [hs]; rfl)
  have hinv' := stepKeepsFirstMatch s _ hinv hstep
  subst hs
  exact ⟨_, hstep, rfl, hinv', rfl, rfl, rfl, rfl⟩

end

/-- Settles O49: after START each step raises the effort, which the stream bounds, until the frame is found. -/
theorem embeddedFrameIsFound : Obligations.EmbeddedFrameIsFound := by
  unfold Obligations.EmbeddedFrameIsFound
  intro junk rest F hF hjunk
  obtain ⟨s, hstart, hs⟩ := awaiting_after_start (stream := junk ++ F.toList ++ rest) rfl
  obtain ⟨n, t, -, hrun, ⟨hd, hsnap, hgiven, hrx, hb⟩⟩ :=
    run_until (fun _ h => h.effort_le) (fun _ h => h.step hF hjunk) hs
  exact ⟨n + 1, t, by rw [run_succ_of_step hstart, hrun], hd, hsnap, hgiven, hrx, hb⟩

end Sys2Proof.Machine

namespace Sys2Proof.Safety

open Sys2Proof.Machine

/-! ## The shift register (R164) -/

/-- The deliveries are the first matches of the stream, and the last of them: no match is left. -/
structure AllMatches (T : List Byte) (ds : List Delivery) : Prop where
  deliveries : firstMatches T 0 ds
  rest : ∀ o, lastEnd ds ≤ o → matchesAt T o = false

/-- The first matches of a stream are determined up to the first that is left out. -/
theorem firstMatches_unique {T : List Byte} {e : Nat} {ds ds' : List Delivery} (h : firstMatches T e ds)
    (h' : firstMatches T e ds') (hrest : ∀ o, endAfter e ds ≤ o → matchesAt T o = false)
    (hrest' : ∀ o, endAfter e ds' ≤ o → matchesAt T o = false) : ds = ds' := by
  induction ds generalizing e ds' with
  | nil =>
    cases ds' with
    | nil => rfl
    | cons d' ds' =>
      obtain ⟨o, he, ho, -⟩ := h'
      simp [hrest o he] at ho
  | cons d ds ih =>
    obtain ⟨o, he, ho, hleast, htaken, hsnap, hmore⟩ := h
    cases ds' with
    | nil => simp [hrest' o he] at ho
    | cons d' ds' =>
      obtain ⟨o', he', ho', hleast', htaken', hsnap', hmore'⟩ := h'
      have hle : ¬ o' < o := fun hlt => by simp [hleast o' he' hlt] at ho'
      have hge : ¬ o < o' := fun hlt => by simp [hleast' o he hlt] at ho
      obtain rfl : o = o' := by omega
      rw [endAfter_cons, htaken] at hrest
      rw [endAfter_cons, htaken'] at hrest'
      have hd : d = d' :=
        calc d = ⟨o + 28, decFrame (frameAt T o)⟩ := by rw [← htaken, ← hsnap]
          _ = d' := by rw [← htaken', ← hsnap']
      rw [hd, ih hmore hmore' hrest hrest']

theorem AllMatches.unique {T : List Byte} {ds ds' : List Delivery} (h : AllMatches T ds) (h' : AllMatches T ds') :
    ds = ds' :=
  firstMatches_unique h.deliveries h'.deliveries (lastEnd_eq_endAfter ds ▸ h.rest) (lastEnd_eq_endAfter ds' ▸ h'.rest)

/-- One byte more, and no match that ends with it: the deliveries are the same. -/
theorem AllMatches.concat {T : List Byte} {ds : List Delivery} {b : Byte} (h : AllMatches T ds)
    (hno : ∀ o, lastEnd ds ≤ o → o + 28 = T.length + 1 → matchesAt (T ++ [b]) o = false) :
    AllMatches (T ++ [b]) ds := by
  refine ⟨firstMatches_append h.deliveries [b], fun o ho => ?_⟩
  by_cases hlen : o + 28 ≤ T.length
  · rw [matchesAt_append hlen, h.rest o ho]
  · by_cases hend : o + 28 = T.length + 1
    · exact hno o ho hend
    · rw [Bool.eq_false_iff]
      intro hmatch
      have hle := (matchesAt_iff.mp hmatch).1
      simp only [List.length_append, List.length_singleton] at hle
      omega

/-- One byte more, and a match that ends with it: that match is delivered. -/
theorem AllMatches.concat_match {T : List Byte} {ds : List Delivery} {b : Byte} {o : Nat} (h : AllMatches T ds)
    (hle : lastEnd ds ≤ o) (hend : o + 28 = T.length + 1) (hmatch : matchesAt (T ++ [b]) o = true) :
    AllMatches (T ++ [b]) (ds ++ [⟨o + 28, decFrame (frameAt (T ++ [b]) o)⟩]) := by
  have hrest := h.rest
  rw [lastEnd_eq_endAfter] at hle hrest
  refine ⟨firstMatches_concat (firstMatches_append h.deliveries [b]) hmatch hle fun p hp hlt => ?_, fun p hp => ?_⟩
  · rw [matchesAt_append (by omega), hrest p hp]
  · replace hp : o + 28 ≤ p := by simpa using hp
    rw [Bool.eq_false_iff]
    intro hp'
    have hlen := (matchesAt_iff.mp hp').1
    simp only [List.length_append, List.length_singleton] at hlen
    omega

/-- What the shift register holds after the stream `T`: the last bytes of it, the bytes since its last delivery, and as
deliveries all matches of the stream. -/
structure ShiftInv (T : List Byte) (r : ShiftReg) : Prop where
  taken : r.taken = T.length
  since : r.since + lastEnd r.out = T.length
  bytes : ∀ (j : Nat) (hj : j < 28), 28 ≤ T.length + j → T[T.length + j - 28]? = some r.reg[j]
  all : AllMatches T r.out

theorem ShiftInv.start (r0 : Frame) : ShiftInv [] ⟨r0, 0, 0, []⟩ where
  taken := rfl
  since := rfl
  bytes := fun j hj hlen => absurd hlen (by simpa using hj)
  all := ⟨trivial, fun o _ => by simp [matchesAt]⟩

/-- Shifting a byte in keeps the register the last bytes of the stream. -/
theorem shiftIn_bytes {T : List Byte} {r : Frame}
    (h : ∀ (j : Nat) (hj : j < 28), 28 ≤ T.length + j → T[T.length + j - 28]? = some r[j]) (b : Byte) :
    ∀ (j : Nat) (hj : j < 28), 28 ≤ T.length + 1 + j → (T ++ [b])[T.length + 1 + j - 28]? = some (shiftIn r b)[j] := by
  intro j hj hlen
  by_cases hlast : j + 1 < 28
  · have hold := h (j + 1) hlast (by omega)
    have hidx : T.length + 1 + j - 28 = T.length + (j + 1) - 28 := by omega
    rw [hidx, List.getElem?_append_left (List.getElem?_eq_some_iff.mp hold).1, hold]
    simp [shiftIn, hlast]
  · obtain rfl : j = 27 := by omega
    have hidx : T.length + 1 + 27 - 28 = T.length := by omega
    simp [hidx, shiftIn]

/-- A register that holds the last bytes of a stream is the frame at its end. -/
theorem frameAt_end {T : List Byte} {r : Frame} {o : Nat} (ho : o + 28 = T.length)
    (h : ∀ (j : Nat) (hj : j < 28), 28 ≤ T.length + j → T[T.length + j - 28]? = some r[j]) : frameAt T o = r := by
  refine Vector.ext fun j hj => ?_
  have hj' := h j hj (by omega)
  have hidx : T.length + j - 28 = o + j := by omega
  rw [hidx] at hj'
  rw [getElem_frameAt _ _ hj, List.getD_eq_getElem?_getD, hj', Option.getD_some]

theorem ShiftReg.take_of_accepts {r : ShiftReg} {b : Byte} (hcount : 28 ≤ r.since + 1)
    (hvalid : validFrame (shiftIn r.reg b) = true) :
    r.take b =
      ⟨shiftIn r.reg b, 0, r.taken + 1, r.out ++ [⟨r.taken + 1, decFrame (shiftIn r.reg b)⟩]⟩ := by
  simp [ShiftReg.take, hcount, hvalid]

theorem ShiftReg.take_of_not_accepts {r : ShiftReg} {b : Byte}
    (h : ¬ (28 ≤ r.since + 1 ∧ validFrame (shiftIn r.reg b) = true)) :
    r.take b = ⟨shiftIn r.reg b, r.since + 1, r.taken + 1, r.out⟩ := by
  have hcond : ¬ (28 ≤ r.since + 1 && validFrame (shiftIn r.reg b)) = true := by simpa using h
  rw [ShiftReg.take, if_neg hcond]

/-- The register accepts exactly where a match ends with the byte shifted in, all of it after the last delivery. -/
theorem ShiftInv.take {T : List Byte} {r : ShiftReg} (h : ShiftInv T r) (b : Byte) : ShiftInv (T ++ [b]) (r.take b) := by
  obtain ⟨htaken, hsince, hbytes, hall⟩ := h
  have hlen : (T ++ [b]).length = T.length + 1 := by simp
  have hbytes' := shiftIn_bytes hbytes b
  rw [← hlen] at hbytes'
  have hframe {o : Nat} (ho : o + 28 = T.length + 1) : frameAt (T ++ [b]) o = shiftIn r.reg b :=
    frameAt_end (by omega) hbytes'
  by_cases hacc : 28 ≤ r.since + 1 ∧ validFrame (shiftIn r.reg b) = true
  · obtain ⟨hcount, hvalid⟩ := hacc
    obtain ⟨o, ho⟩ : ∃ o, o + 28 = T.length + 1 := ⟨T.length + 1 - 28, by omega⟩
    have hmatch : matchesAt (T ++ [b]) o = true := matchesAt_iff.mpr ⟨by omega, (congrArg validFrame (hframe ho)).trans hvalid⟩
    have hall' := hall.concat_match (by omega) ho hmatch
    rw [hframe ho, ho, ← htaken] at hall'
    rw [ShiftReg.take_of_accepts hcount hvalid]
    exact ⟨by simp [htaken], by simp [htaken], hbytes', hall'⟩
  · rw [ShiftReg.take_of_not_accepts hacc]
    refine ⟨by simp [htaken], ?_, hbytes', hall.concat fun o hle ho => ?_⟩
    · rw [hlen, ← hsince]
      exact Nat.add_right_comm _ _ _
    · rw [Bool.eq_false_iff]
      intro hmatch
      have hvalid := (matchesAt_iff.mp hmatch).2
      rw [hframe ho] at hvalid
      exact hacc ⟨by omega, hvalid⟩

/-- Whatever the register held at first, it delivers all matches of the stream. -/
theorem allMatches_shiftDeliveries (r0 : Frame) (T : List Byte) : AllMatches T (shiftDeliveries r0 T) := by
  have inv : ShiftInv T (T.foldl ShiftReg.take ⟨r0, 0, 0, []⟩) := by
    induction T using List.reverseRecOn with
    | nil => exact .start r0
    | append_singleton T b ih =>
      rw [List.foldl_append]
      exact ih.take b
  exact inv.all

/-- Settles O50: both deliver all matches of what has been taken. -/
theorem shiftRegisterAgrees : Obligations.ShiftRegisterAgrees := by
  unfold Obligations.ShiftRegisterAgrees
  intro s r0 hs hn
  have hall : AllMatches s.given s.delivered := ⟨hs.deliveries, fun _ ho => hs.matchesAt_eq_false hn ho⟩
  exact (allMatches_shiftDeliveries r0 s.given).unique hall

/-! ## Every run from reset (R159, R163) -/

/-- In a step without `rst` the stream grows by what arrives, and by nothing else. -/
theorem step_stream {s t : State} (h : step s = .next t) (hm : s.move ≠ .rst) :
    t.given ++ t.rx = s.given ++ s.rx ++ s.arrived := by
  obtain ⟨b, -, ho, hg, hrx⟩ | ⟨-, hg, hrx⟩ := bytesPassOnTheHandshake s t h hm
  · obtain ⟨_, _, hsync, -⟩ := State.offered_eq_some ho
    simp [hg, hrx, State.arrived_sync hsync]
  · simp [hg, hrx]

theorem arrivals_succ {s t : State} (h : step s = .next t) (n : Nat) : arrivals (n + 1) s = s.arrived ++ arrivals n t := by
  simp [arrivals, h]

/-- What a run without `rst` has taken and what then waits is the stream, and what reached it. -/
theorem run_stream {n : Nat} {s t : State} (hmoves : s.EveryMove (· ≠ .rst)) (h : Host.Core.run core n s = .next t) :
    t.given ++ t.rx = s.given ++ s.rx ++ arrivals n s := by
  induction n generalizing s with
  | zero =>
    cases h
    simp [arrivals]
  | succ n ih =>
    obtain ⟨u, hu, hrun⟩ := run_succ_eq_next h
    rw [ih (hmoves.step hu) hrun, step_stream hu (hmoves.move (by simp)), arrivals_succ hu, List.append_assoc]

/-- Where no move is an arrival nothing arrives. -/
theorem arrivals_eq_nil (n : Nat) {s : State}
    (hmoves : s.EveryMove fun m => m ≠ .arriveAny ∧ ∀ bytes, m ≠ .arrive bytes) : arrivals n s = [] := by
  induction n generalizing s with
  | zero => rfl
  | succ n ih =>
    have hnone : s.arrived = [] := by
      have hmove := hmoves.move (by simp)
      unfold State.arrived
      split <;> simp_all
    cases hs : step s with
    | next t => rw [arrivals_succ hs, hnone, ih (hmoves.step hs), List.append_nil]
    | fault r => cases r
    | refused r => simp [arrivals, hs, hnone]

/-- Settles O51: the first-match invariant holds at reset and along every run, and so does the account of the stream. -/
theorem everyRunDeliversFirstMatches : Obligations.EveryRunDeliversFirstMatches := by
  unfold Obligations.EveryRunDeliversFirstMatches
  intro stream moves habit n t hmoves h
  generalize hs : ({ State.reset with rx := stream, script := moves, habit := habit } : State) = s at h ⊢
  have hqueue : s.script ++ s.habit = moves ++ habit := by rw [← hs]
  have hreset : SearchInv s := hs ▸ searchInv_reset stream moves habit
  rw [← hqueue] at hmoves ⊢
  have hinv : SearchInv t := run_keeps stepKeepsFirstMatch hreset h
  have hstream : t.given ++ t.rx = s.given ++ s.rx ++ arrivals n s := run_stream hmoves h
  exact ⟨by rw [hstream, ← hs]; rfl, arrivals_eq_nil n, hinv.deliveries, hinv⟩

end Sys2Proof.Safety
end

section
/-! SUPPORT. Accessors (R180 to R186): the range tests, the bit of `digital_io` that SETD writes and GETD reads, the
channel that SETA writes, and what the three answer on their ports. -/

namespace Sys2Proof.Machine

/-! ## The range tests (R184) -/

theorem pinInRange_iff {pin : Byte} : pinInRange pin = true ↔ pin.toNat ≤ 15 := by
  simp [pinInRange, BitVec.le_def]

theorem channelInRange_iff {channel : Byte} : channelInRange channel = true ↔ channel.toNat ≤ 3 := by
  simp [channelInRange, BitVec.le_def]

/-- The upper four bits of an operand are its number divided by 16. -/
theorem toNat_le_15_iff_upper_zero {n : Byte} : n.toNat ≤ 15 ↔ n.extractLsb' 4 4 = 0#4 := by
  have hn : n.toNat < 256 := n.isLt
  rw [← BitVec.toNat_inj]
  simp only [BitVec.extractLsb'_toNat, Nat.shiftRight_eq_div_pow, BitVec.toNat_ofNat]
  omega

/-- An operand that a caller thinks of as negative is at least 80 hexadecimal. -/
theorem le_toNat_of_bit7 {n : Byte} (h : n.getLsbD 7 = true) : 128 ≤ n.toNat :=
  BitVec.le_toNat_of_msb_true (by rwa [BitVec.msb_eq_getLsbD_last])

/-! ## The bits of `digital_io` (R180 to R182) -/

theorem getLsbD_pinMask (pin : Byte) {k : Nat} (hk : k < 32) :
    (pinMask pin).getLsbD k = decide (k = 16 + pin.toNat) := by
  rw [Bool.eq_iff_iff]
  simp [pinMask, pinBit, Config.pinBase, hk]
  omega

/-- Writing a pin sets the pin's bit and keeps every other. -/
theorem getLsbD_writePin (d : BitVec 32) (pin : Byte) (state : Bool) {k : Nat} (hk : k < 32) :
    (writePin d pin state).getLsbD k = if k = 16 + pin.toNat then state else d.getLsbD k := by
  unfold writePin
  cases state with
  | false =>
    simp only [Bool.false_eq_true, if_false, BitVec.getLsbD_and, BitVec.getLsbD_not, getLsbD_pinMask pin hk]
    by_cases h : k = 16 + pin.toNat <;> simp [h, hk]
  | true =>
    simp only [if_true, BitVec.getLsbD_or, getLsbD_pinMask pin hk]
    by_cases h : k = 16 + pin.toNat <;> simp [h]

/-- The policy for the low half of `digital_io` never changes the high half. -/
theorem getLsbD_lowHalf (policy : OpenPolicy) (fresh : BitVec 16) (d : BitVec 32) {k : Nat} (h16 : 16 ≤ k)
    (hk : k < 32) : (lowHalf policy fresh d).getLsbD k = d.getLsbD k := by
  cases policy with
  | unchanged => rfl
  | anyValue =>
    have hhigh : k - 16 < 16 := by omega
    calc (d.extractLsb' 16 16 ++ fresh).getLsbD k
      _ = (d.extractLsb' 16 16).getLsbD (k - 16) := by rw [BitVec.getLsbD_append, if_neg (Nat.not_lt.mpr h16)]
      _ = d.getLsbD k := by simp [hhigh, Nat.add_sub_cancel' h16]

/-! ## SETD and GETD as functions of a Snapshot (R181, R182) -/

section
variable (policy : OpenPolicy) (fresh : BitVec 16) (S : Snapshot) {pin : Byte} (state : Bool)

theorem setDigital_of_le (h : pin.toNat ≤ 15) :
    setDigital policy fresh S pin state
      = { S with digitalIo := lowHalf policy fresh (writePin S.digitalIo pin state) } :=
  if_pos (pinInRange_iff.mpr h)

theorem setDigital_of_lt (h : 15 < pin.toNat) : setDigital policy fresh S pin state = S :=
  if_neg fun hr => absurd (pinInRange_iff.mp hr) (Nat.not_le.mpr h)

theorem getDigital_of_le (h : pin.toNat ≤ 15) : getDigital S pin = S.digitalIo.getLsbD (16 + pin.toNat) :=
  if_pos (pinInRange_iff.mpr h)

theorem getDigital_of_lt (h : 15 < pin.toNat) : getDigital S pin = false :=
  if_neg fun hr => absurd (pinInRange_iff.mp hr) (Nat.not_le.mpr h)

/-- SETD in range sets the pin's bit and keeps the other bits of the pins' half. -/
theorem getLsbD_setDigital (h : pin.toNat ≤ 15) {k : Nat} (h16 : 16 ≤ k) (hk : k < 32) :
    (setDigital policy fresh S pin state).digitalIo.getLsbD k
      = if k = 16 + pin.toNat then state else S.digitalIo.getLsbD k := by
  rw [setDigital_of_le policy fresh S state h]
  exact (getLsbD_lowHalf policy fresh _ h16 hk).trans (getLsbD_writePin _ pin state hk)

/-- Under the policy `unchanged` the same holds of all 32 bits, and an out of range pin is the case of no bit. -/
theorem getLsbD_setDigital_unchanged (pin : Byte) {k : Nat} (hk : k < 32) :
    (setDigital .unchanged fresh S pin state).digitalIo.getLsbD k
      = if pin.toNat ≤ 15 ∧ k = 16 + pin.toNat then state else S.digitalIo.getLsbD k := by
  by_cases h : pin.toNat ≤ 15
  · simp [setDigital_of_le _ _ _ _ h, getLsbD_writePin _ _ _ hk, h]
  · simp [setDigital_of_lt _ _ _ _ (Nat.not_le.mp h), h]

/-- SETD leaves every field but `digital_io` alone. -/
theorem setDigital_other_fields (pin : Byte) :
    (setDigital policy fresh S pin state).analogIo = S.analogIo
    ∧ (setDigital policy fresh S pin state).auxFlag = S.auxFlag
    ∧ (setDigital policy fresh S pin state).auxA = S.auxA
    ∧ (setDigital policy fresh S pin state).auxB = S.auxB := by
  unfold setDigital
  split <;> exact ⟨rfl, rfl, rfl, rfl⟩

/-- What GETD reads at an in range pin after SETD wrote one: the level written at that pin, the old level at another. -/
theorem getDigital_setDigital {r : Byte} (h : pin.toNat ≤ 15) (hr : r.toNat ≤ 15) :
    getDigital (setDigital policy fresh S pin state) r = if r = pin then state else getDigital S r := by
  have hsame : 16 + r.toNat = 16 + pin.toNat ↔ r = pin := by rw [Nat.add_left_cancel_iff, BitVec.toNat_inj]
  rw [getDigital_of_le _ hr, getDigital_of_le _ hr,
    getLsbD_setDigital policy fresh S state h (Nat.le_add_right ..) (by omega)]
  simp only [hsame]

end

/-! ## SETA as a function of a Snapshot (R183) -/

section
variable (S : Snapshot) {channel : Byte} (value : BitVec 16)

theorem setAnalog_of_le (h : channel.toNat ≤ 3) :
    setAnalog S channel value = { S with analogIo := S.analogIo.setIfInBounds channel.toNat value } :=
  if_pos (channelInRange_iff.mpr h)

theorem setAnalog_of_lt (h : 3 < channel.toNat) : setAnalog S channel value = S :=
  if_neg fun hr => absurd (channelInRange_iff.mp hr) (Nat.not_le.mpr h)

/-- SETA writes the channel of its operand's number, if there is one, and keeps the others. -/
theorem getElem_setAnalog (channel : Byte) (c : Fin 4) :
    (setAnalog S channel value).analogIo[c] = if c.val = channel.toNat then value else S.analogIo[c] := by
  by_cases h : channel.toNat ≤ 3
  · simp [setAnalog_of_le _ _ h, Vector.getElem_setIfInBounds, eq_comm]
  · have hc : c.val ≠ channel.toNat := by omega
    simp [setAnalog_of_lt _ _ (Nat.not_le.mp h), hc]

/-- SETA leaves every field but `analog_io` alone. -/
theorem setAnalog_other_fields (channel : Byte) :
    (setAnalog S channel value).digitalIo = S.digitalIo ∧ (setAnalog S channel value).auxFlag = S.auxFlag
    ∧ (setAnalog S channel value).auxA = S.auxA ∧ (setAnalog S channel value).auxB = S.auxB := by
  unfold setAnalog
  split <;> exact ⟨rfl, rfl, rfl, rfl⟩

end

/-! ## The accessors on their ports (R38) -/

theorem exec_setd (S : Snapshot) (pin : Byte) (state : Bool) (s : State) :
    exec (.setd S pin state) s
      = .next (s.pushResult (.sdResult (setDigital .unchanged (Config.freeLowHalf s.draws) S pin state))) := rfl

theorem exec_getd (S : Snapshot) (pin : Byte) (s : State) :
    exec (.getd S pin) s = .next (s.pushResult (.gdValue (getDigital S pin))) := rfl

theorem exec_seta (S : Snapshot) (channel : Byte) (value : BitVec 16) (s : State) :
    exec (.seta S channel value) s = .next (s.pushResult (.saResult (setAnalog S channel value))) := rfl

/-- Settles O10: the Snapshot shown is SETD's, whose bits and other fields are known. -/
theorem setdWritesOnePin : Obligations.SetdWritesOnePin := fun S pin state s =>
  ⟨_, exec_setd S pin state s, fun _ hk => getLsbD_setDigital_unchanged _ S state pin hk,
    setDigital_other_fields _ _ S state pin⟩

/-- Settles O11: the bit shown is GETD's, in range and out of range. -/
theorem getdReadsOnePin : Obligations.GetdReadsOnePin := fun S pin s =>
  ⟨_, exec_getd S pin s, getDigital_of_le S, getDigital_of_lt S⟩

/-- Settles O12: the Snapshot shown is SETA's, whose channels and other fields are known. -/
theorem setaWritesOneChannel : Obligations.SetaWritesOneChannel := fun S channel value s =>
  ⟨_, exec_seta S channel value s, getElem_setAnalog S value channel, setAnalog_other_fields S value channel⟩

/-- Settles O13: both range tests compare the unsigned number, and the out of range branch answers the operand. -/
theorem outOfRangeOperandsDoNothing : Obligations.OutOfRangeOperandsDoNothing := by
  unfold Obligations.OutOfRangeOperandsDoNothing
  intro S n policy fresh value state
  refine ⟨toNat_le_15_iff_upper_zero, fun h7 => ?_,
    fun h => ⟨setDigital_of_lt policy fresh S state h, getDigital_of_lt S h⟩, setAnalog_of_lt S value⟩
  have hn : 128 ≤ n.toNat := le_toNat_of_bit7 h7
  omega

/-- Settles O14: GETD reads the bit that SETD wrote, which is no other pin's. -/
theorem accessorRoundTrip : Obligations.AccessorRoundTrip := by
  unfold Obligations.AccessorRoundTrip
  intro policy fresh S p r v hp hr
  constructor
  · rw [getDigital_setDigital policy fresh S v hp hp, if_pos rfl]
  · intro hne
    rw [getDigital_setDigital policy fresh S v hp hr, if_neg hne]

end Sys2Proof.Machine
end

section
/-! SUPPORT. Exceptions (R200 to R206): every step within R29 has a next state, and which inputs a Synchronizer step
looks at. -/

namespace Sys2Proof.Machine

open Sys2Proof.Safety

/-! ## No step stops (R200, R204) -/

/-- A use of a function's ports completes where the word is well formed, whatever state the block is in (R38). -/
theorem step_use {s : State} {w : PortWord} (hm : s.move = .use w) (hw : w.wellFormed = true) :
    ∃ r, step s = .next (s.pushResult r).popMove := by
  obtain ⟨i, hd⟩ := (exists_decodePort_iff w).mpr hw
  obtain ⟨r, hr⟩ := exec_of_decodePort hd s
  exact ⟨r, by rw [step_of_decodePort hm hd, hr, finish_next]⟩

/-- Settles O37: each kind of move has its step, R29 being needed for the Synchronizer's alone. -/
theorem noStepStops : Obligations.NoStepStops := by
  unfold Obligations.NoStepStops
  intro s hl hports
  cases hm : s.move with
  | sync start offer =>
    obtain ⟨u, -, hstep⟩ := step_sync hm hl
    exact ⟨_, hstep⟩
  | use w =>
    obtain ⟨r, hstep⟩ := step_use hm (hports w hm)
    exact ⟨_, hstep⟩
  | rst => exact ⟨_, step_rst hm⟩
  | arrive bytes => exact ⟨_, step_arrive hm⟩
  | arriveAny => exact ⟨_, step_arriveAny hm⟩

/-! ## The inputs that a step looks at (R145, R206) -/

/-- While the block is idle or scanning, R156 does not look at the offered byte. -/
theorem stepR156_of_not_ready {s : State} (h : s.busy = false ∨ s.need = 0) (start : Bool)
    (input input' : Option Byte) : stepR156 start input s = stepR156 start input' s := by
  rcases h with hb | hn
  · simp [stepR156, hb]
  · simp [stepR156, hn]

/-- While the block is idle or scanning, a Synchronizer step is the same with and without an offered byte: outside
R29 both are refused. -/
theorem step_with_sync_of_not_ready {s : State} (h : s.busy = false ∨ s.need = 0) (start offer offer' : Bool)
    (rest : List Move) :
    step { s with script := .sync start offer :: rest } = step { s with script := .sync start offer' :: rest } := by
  cases hl : s.legal with
  | true => rw [step_with_sync hl, step_with_sync hl, stepR156_of_not_ready h]
  | false =>
    rw [illegalStatesAreRefused { s with script := .sync start offer :: rest } start offer rfl hl,
      illegalStatesAreRefused { s with script := .sync start offer' :: rest } start offer' rfl hl]

/-- Settles O41: what START says of `start` while `BUSY` is 1, and that no byte is looked at where none is needed. -/
theorem inputsAreSampledOnlyWhenUsed : Obligations.InputsAreSampledOnlyWhenUsed :=
  ⟨startSetsBusy.2, fun _ start rest h => step_with_sync_of_not_ready h start true false rest⟩

end Sys2Proof.Machine
end

section
/-! SUPPORT. Reset (R230): the status outputs while `rst` is asserted, and the state that it leaves, from any state. -/

namespace Sys2Proof.Machine

/-- While `rst` is asserted the three status outputs are 0, whatever the registers hold (R36, R40, R230). -/
theorem State.statusOutputs_of_rst {s : State} (hm : s.move = .rst) :
    s.busyOut = false ∧ s.rxReady = false ∧ s.snapValid = false := by
  have hr : s.rstIn = true := by simp [State.rstIn, hm]
  have hf : s.fetch = .reset := by simp [State.fetch, hm]
  exact ⟨by simp [State.busyOut, hr], by simp [State.rxReady, hr], by simp [State.snapValid, hf]⟩

/-- Settles O33: the step of `rst` is `resetBlock`, which asks nothing of the state it is made in. -/
theorem rstResetsFromAnyState : Obligations.RstResetsFromAnyState := by
  unfold Obligations.RstResetsFromAnyState
  intro s hm
  obtain ⟨hbusy, hready, hsnap⟩ := State.statusOutputs_of_rst hm
  refine ⟨hbusy, hready, hsnap, s.resetBlock.popMove, step_rst hm, ?_⟩
  simp

end Sys2Proof.Machine
end
